-- ==== Sys2Proof/Word.lean ====
section
/-! DEFINITION. The two word sizes of the machine (00_scope.md R7, R8): bytes and 16-bit words.
Arithmetic on them wraps (`trunc_8`, `trunc_16` of R8); everything that takes words apart stands in
Machine/Bits.lean, where a repair may mend it. -/

namespace Sys2Proof

/-- An 8-bit register, a memory byte, an opcode byte or an 8-bit immediate. -/
abbrev Byte := BitVec 8

/-- A 16-bit register pair, a memory address, a port address or a 16-bit immediate. -/
abbrev Word := BitVec 16

end Sys2Proof
end

