-- ==== Sys2Proof/Machine/Bits.lean ====
section
/-! DEFINITION. Taking words apart and putting them together (00_scope.md R8, 10_state.md R31):
halves of a pair, the sign-extended displacement, parity, single bits. -/

namespace Sys2Proof.Machine

/-- `w[15:8]`, the high byte of a pair (R31). -/
def hi (w : Word) : Byte := w.extractLsb' 8 8

/-- `w[7:0]`, the low byte of a pair (R31). -/
def lo (w : Word) : Byte := w.extractLsb' 0 8

/-- `h : l` of R8, the 16-bit value with h the more significant byte. -/
def pair (h l : Byte) : Word := h ++ l

/-- A write of the high half: `x[P] <- v : x[P][7:0]` (R31). -/
def withHi (w : Word) (v : Byte) : Word := pair v (lo w)

/-- A write of the low half: `x[P] <- x[P][15:8] : v` (R31). -/
def withLo (w : Word) (v : Byte) : Word := pair (hi w) v

/-- `sext_8(d)` of R8 as a 16-bit addend, so that a sum of words with it is `trunc_16` of the sum. -/
def sext8 (d : Byte) : Word := d.signExtend 16

/-- `parity(v)` of R8: true when v has an even number of one bits. -/
def parity (v : Byte) : Bool := (List.range 8).countP (fun k => v.getLsbD k) % 2 == 0

/-- The byte with only bit k set, `1 << k`. -/
def bitMask (k : Nat) : Byte := 1#8 <<< k

/-- A step of dir = +1 or -1 (R270, R452, R458): `trunc_16(w + dir)`; `down` says dir = -1. -/
def stepWord (down : Bool) (w : Word) : Word := if down then w - 1 else w + 1

/-- `trunc_8(v + dir)` (R452). -/
def stepByte (down : Bool) (v : Byte) : Byte := if down then v - 1 else v + 1

end Sys2Proof.Machine
end

