-- ==== Sys2Proof/Syntax.lean ====
section
/-! DEFINITION. The operand names of 30_encoding.md R121 and R124 and the instructions: one
constructor per row of opcode_table.json, named after the row's source mnemonic. In a name, `mHL`,
`mIXd`, `mnn` stand for the memory operands (HL), (IX+d), (nn), and `pn`, `pC` for the ports (n), (C);
a last register after a memory operand of a CB form is the copy register of R385; `_zk` is the z field
of the BIT duplicates of R402; `_ed` marks the ED form of a load that also has an unprefixed form. -/

namespace Sys2Proof

/-- A 3-bit field of an opcode byte (y or z of R121): a bit number, a restart number, a z field. -/
inductive Field3 where
  | f0
  | f1
  | f2
  | f3
  | f4
  | f5
  | f6
  | f7
  deriving DecidableEq, Repr

/-- The 8-bit registers of the r field (R124); value 6 is (HL) and no register. -/
inductive Reg8 where
  | b
  | c
  | d
  | e
  | h
  | l
  | a
  deriving DecidableEq, Repr

/-- The pairs of the dd and ss fields (R124). -/
inductive PairSS where
  | bc
  | de
  | hl
  | sp
  deriving DecidableEq, Repr

/-- The pairs of the qq field (R124). -/
inductive PairQQ where
  | bc
  | de
  | hl
  | af
  deriving DecidableEq, Repr

/-- The pairs of the pp and rr fields (R124); `self` is the index register of the instruction. -/
inductive PairPP where
  | bc
  | de
  | self
  | sp
  deriving DecidableEq, Repr

/-- The index registers, XY of R12. -/
inductive Idx where
  | ix
  | iy
  deriving DecidableEq, Repr

/-- The halves XYH and XYL of an index register (R34). -/
inductive Half where
  | high
  | low
  deriving DecidableEq, Repr

/-- The registers an index-half load names beside the halves (R218): r without H and L. -/
inductive PlainReg where
  | b
  | c
  | d
  | e
  | a
  deriving DecidableEq, Repr

/-- The conditions of the cc field (R420). -/
inductive Cond where
  | nz
  | z
  | nc
  | c
  | po
  | pe
  | p
  | m
  deriving DecidableEq, Repr

/-- The conditions of JR cc,e (R420): cc 0 to 3. -/
inductive JrCond where
  | nz
  | z
  | nc
  | c
  deriving DecidableEq, Repr

/-- The eight accumulator operations in the order of the ALU field (R124, R302). -/
inductive AluOp where
  | add
  | adc
  | sub
  | sbc
  | and
  | xor
  | or
  | cp
  deriving DecidableEq, Repr

/-- The eight rotates and shifts in the order of the 3-bit field k (R124, R384). -/
inductive RotOp where
  | rlc
  | rrc
  | rl
  | rr
  | sla
  | sra
  | sll
  | srl
  deriving DecidableEq, Repr

/-- The instructions. Operands are the bytes and words of the encoding: d a displacement, e a
relative-jump displacement, n an 8-bit and nn a 16-bit immediate (R125). -/
inductive Instr where
  | nop
  | ld_BC_nn (nn : Word)
  | ld_mBC_A
  | inc_BC
  | inc_B
  | dec_B
  | ld_B_n (n : Byte)
  | rlca
  | ex_AF_AF
  | add_HL_BC
  | ld_A_mBC
  | dec_BC
  | inc_C
  | dec_C
  | ld_C_n (n : Byte)
  | rrca
  | djnz_e (e : Byte)
  | ld_DE_nn (nn : Word)
  | ld_mDE_A
  | inc_DE
  | inc_D
  | dec_D
  | ld_D_n (n : Byte)
  | rla
  | jr_e (e : Byte)
  | add_HL_DE
  | ld_A_mDE
  | dec_DE
  | inc_E
  | dec_E
  | ld_E_n (n : Byte)
  | rra
  | jr_NZ_e (e : Byte)
  | ld_HL_nn (nn : Word)
  | ld_mnn_HL (nn : Word)
  | inc_HL
  | inc_H
  | dec_H
  | ld_H_n (n : Byte)
  | daa
  | jr_Z_e (e : Byte)
  | add_HL_HL
  | ld_HL_mnn (nn : Word)
  | dec_HL
  | inc_L
  | dec_L
  | ld_L_n (n : Byte)
  | cpl
  | jr_NC_e (e : Byte)
  | ld_SP_nn (nn : Word)
  | ld_mnn_A (nn : Word)
  | inc_SP
  | inc_mHL
  | dec_mHL
  | ld_mHL_n (n : Byte)
  | scf
  | jr_C_e (e : Byte)
  | add_HL_SP
  | ld_A_mnn (nn : Word)
  | dec_SP
  | inc_A
  | dec_A
  | ld_A_n (n : Byte)
  | ccf
  | ld_B_B
  | ld_B_C
  | ld_B_D
  | ld_B_E
  | ld_B_H
  | ld_B_L
  | ld_B_mHL
  | ld_B_A
  | ld_C_B
  | ld_C_C
  | ld_C_D
  | ld_C_E
  | ld_C_H
  | ld_C_L
  | ld_C_mHL
  | ld_C_A
  | ld_D_B
  | ld_D_C
  | ld_D_D
  | ld_D_E
  | ld_D_H
  | ld_D_L
  | ld_D_mHL
  | ld_D_A
  | ld_E_B
  | ld_E_C
  | ld_E_D
  | ld_E_E
  | ld_E_H
  | ld_E_L
  | ld_E_mHL
  | ld_E_A
  | ld_H_B
  | ld_H_C
  | ld_H_D
  | ld_H_E
  | ld_H_H
  | ld_H_L
  | ld_H_mHL
  | ld_H_A
  | ld_L_B
  | ld_L_C
  | ld_L_D
  | ld_L_E
  | ld_L_H
  | ld_L_L
  | ld_L_mHL
  | ld_L_A
  | ld_mHL_B
  | ld_mHL_C
  | ld_mHL_D
  | ld_mHL_E
  | ld_mHL_H
  | ld_mHL_L
  | halt
  | ld_mHL_A
  | ld_A_B
  | ld_A_C
  | ld_A_D
  | ld_A_E
  | ld_A_H
  | ld_A_L
  | ld_A_mHL
  | ld_A_A
  | add_A_B
  | add_A_C
  | add_A_D
  | add_A_E
  | add_A_H
  | add_A_L
  | add_A_mHL
  | add_A_A
  | adc_A_B
  | adc_A_C
  | adc_A_D
  | adc_A_E
  | adc_A_H
  | adc_A_L
  | adc_A_mHL
  | adc_A_A
  | sub_B
  | sub_C
  | sub_D
  | sub_E
  | sub_H
  | sub_L
  | sub_mHL
  | sub_A
  | sbc_A_B
  | sbc_A_C
  | sbc_A_D
  | sbc_A_E
  | sbc_A_H
  | sbc_A_L
  | sbc_A_mHL
  | sbc_A_A
  | and_B
  | and_C
  | and_D
  | and_E
  | and_H
  | and_L
  | and_mHL
  | and_A
  | xor_B
  | xor_C
  | xor_D
  | xor_E
  | xor_H
  | xor_L
  | xor_mHL
  | xor_A
  | or_B
  | or_C
  | or_D
  | or_E
  | or_H
  | or_L
  | or_mHL
  | or_A
  | cp_B
  | cp_C
  | cp_D
  | cp_E
  | cp_H
  | cp_L
  | cp_mHL
  | cp_A
  | ret_NZ
  | pop_BC
  | jp_NZ_nn (nn : Word)
  | jp_nn (nn : Word)
  | call_NZ_nn (nn : Word)
  | push_BC
  | add_A_n (n : Byte)
  | rst_00H
  | ret_Z
  | ret
  | jp_Z_nn (nn : Word)
  | call_Z_nn (nn : Word)
  | call_nn (nn : Word)
  | adc_A_n (n : Byte)
  | rst_08H
  | ret_NC
  | pop_DE
  | jp_NC_nn (nn : Word)
  | out_pn_A (n : Byte)
  | call_NC_nn (nn : Word)
  | push_DE
  | sub_n (n : Byte)
  | rst_10H
  | ret_C
  | exx
  | jp_C_nn (nn : Word)
  | in_A_pn (n : Byte)
  | call_C_nn (nn : Word)
  | sbc_A_n (n : Byte)
  | rst_18H
  | ret_PO
  | pop_HL
  | jp_PO_nn (nn : Word)
  | ex_mSP_HL
  | call_PO_nn (nn : Word)
  | push_HL
  | and_n (n : Byte)
  | rst_20H
  | ret_PE
  | jp_mHL
  | jp_PE_nn (nn : Word)
  | ex_DE_HL
  | call_PE_nn (nn : Word)
  | xor_n (n : Byte)
  | rst_28H
  | ret_P
  | pop_AF
  | jp_P_nn (nn : Word)
  | di
  | call_P_nn (nn : Word)
  | push_AF
  | or_n (n : Byte)
  | rst_30H
  | ret_M
  | ld_SP_HL
  | jp_M_nn (nn : Word)
  | ei
  | call_M_nn (nn : Word)
  | cp_n (n : Byte)
  | rst_38H
  | rlc_B
  | rlc_C
  | rlc_D
  | rlc_E
  | rlc_H
  | rlc_L
  | rlc_mHL
  | rlc_A
  | rrc_B
  | rrc_C
  | rrc_D
  | rrc_E
  | rrc_H
  | rrc_L
  | rrc_mHL
  | rrc_A
  | rl_B
  | rl_C
  | rl_D
  | rl_E
  | rl_H
  | rl_L
  | rl_mHL
  | rl_A
  | rr_B
  | rr_C
  | rr_D
  | rr_E
  | rr_H
  | rr_L
  | rr_mHL
  | rr_A
  | sla_B
  | sla_C
  | sla_D
  | sla_E
  | sla_H
  | sla_L
  | sla_mHL
  | sla_A
  | sra_B
  | sra_C
  | sra_D
  | sra_E
  | sra_H
  | sra_L
  | sra_mHL
  | sra_A
  | sll_B
  | sll_C
  | sll_D
  | sll_E
  | sll_H
  | sll_L
  | sll_mHL
  | sll_A
  | srl_B
  | srl_C
  | srl_D
  | srl_E
  | srl_H
  | srl_L
  | srl_mHL
  | srl_A
  | bit_0_B
  | bit_0_C
  | bit_0_D
  | bit_0_E
  | bit_0_H
  | bit_0_L
  | bit_0_mHL
  | bit_0_A
  | bit_1_B
  | bit_1_C
  | bit_1_D
  | bit_1_E
  | bit_1_H
  | bit_1_L
  | bit_1_mHL
  | bit_1_A
  | bit_2_B
  | bit_2_C
  | bit_2_D
  | bit_2_E
  | bit_2_H
  | bit_2_L
  | bit_2_mHL
  | bit_2_A
  | bit_3_B
  | bit_3_C
  | bit_3_D
  | bit_3_E
  | bit_3_H
  | bit_3_L
  | bit_3_mHL
  | bit_3_A
  | bit_4_B
  | bit_4_C
  | bit_4_D
  | bit_4_E
  | bit_4_H
  | bit_4_L
  | bit_4_mHL
  | bit_4_A
  | bit_5_B
  | bit_5_C
  | bit_5_D
  | bit_5_E
  | bit_5_H
  | bit_5_L
  | bit_5_mHL
  | bit_5_A
  | bit_6_B
  | bit_6_C
  | bit_6_D
  | bit_6_E
  | bit_6_H
  | bit_6_L
  | bit_6_mHL
  | bit_6_A
  | bit_7_B
  | bit_7_C
  | bit_7_D
  | bit_7_E
  | bit_7_H
  | bit_7_L
  | bit_7_mHL
  | bit_7_A
  | res_0_B
  | res_0_C
  | res_0_D
  | res_0_E
  | res_0_H
  | res_0_L
  | res_0_mHL
  | res_0_A
  | res_1_B
  | res_1_C
  | res_1_D
  | res_1_E
  | res_1_H
  | res_1_L
  | res_1_mHL
  | res_1_A
  | res_2_B
  | res_2_C
  | res_2_D
  | res_2_E
  | res_2_H
  | res_2_L
  | res_2_mHL
  | res_2_A
  | res_3_B
  | res_3_C
  | res_3_D
  | res_3_E
  | res_3_H
  | res_3_L
  | res_3_mHL
  | res_3_A
  | res_4_B
  | res_4_C
  | res_4_D
  | res_4_E
  | res_4_H
  | res_4_L
  | res_4_mHL
  | res_4_A
  | res_5_B
  | res_5_C
  | res_5_D
  | res_5_E
  | res_5_H
  | res_5_L
  | res_5_mHL
  | res_5_A
  | res_6_B
  | res_6_C
  | res_6_D
  | res_6_E
  | res_6_H
  | res_6_L
  | res_6_mHL
  | res_6_A
  | res_7_B
  | res_7_C
  | res_7_D
  | res_7_E
  | res_7_H
  | res_7_L
  | res_7_mHL
  | res_7_A
  | set_0_B
  | set_0_C
  | set_0_D
  | set_0_E
  | set_0_H
  | set_0_L
  | set_0_mHL
  | set_0_A
  | set_1_B
  | set_1_C
  | set_1_D
  | set_1_E
  | set_1_H
  | set_1_L
  | set_1_mHL
  | set_1_A
  | set_2_B
  | set_2_C
  | set_2_D
  | set_2_E
  | set_2_H
  | set_2_L
  | set_2_mHL
  | set_2_A
  | set_3_B
  | set_3_C
  | set_3_D
  | set_3_E
  | set_3_H
  | set_3_L
  | set_3_mHL
  | set_3_A
  | set_4_B
  | set_4_C
  | set_4_D
  | set_4_E
  | set_4_H
  | set_4_L
  | set_4_mHL
  | set_4_A
  | set_5_B
  | set_5_C
  | set_5_D
  | set_5_E
  | set_5_H
  | set_5_L
  | set_5_mHL
  | set_5_A
  | set_6_B
  | set_6_C
  | set_6_D
  | set_6_E
  | set_6_H
  | set_6_L
  | set_6_mHL
  | set_6_A
  | set_7_B
  | set_7_C
  | set_7_D
  | set_7_E
  | set_7_H
  | set_7_L
  | set_7_mHL
  | set_7_A
  | in_B_pC
  | out_pC_B
  | sbc_HL_BC
  | ld_mnn_BC (nn : Word)
  | neg
  | retn
  | im_0
  | ld_I_A
  | in_C_pC
  | out_pC_C
  | adc_HL_BC
  | ld_BC_mnn (nn : Word)
  | reti
  | ld_R_A
  | in_D_pC
  | out_pC_D
  | sbc_HL_DE
  | ld_mnn_DE (nn : Word)
  | im_1
  | ld_A_I
  | in_E_pC
  | out_pC_E
  | adc_HL_DE
  | ld_DE_mnn (nn : Word)
  | im_2
  | ld_A_R
  | in_H_pC
  | out_pC_H
  | sbc_HL_HL
  | ld_mnn_HL_ed (nn : Word)
  | rrd
  | in_L_pC
  | out_pC_L
  | adc_HL_HL
  | ld_HL_mnn_ed (nn : Word)
  | rld
  | sbc_HL_SP
  | ld_mnn_SP (nn : Word)
  | in_A_pC
  | out_pC_A
  | adc_HL_SP
  | ld_SP_mnn (nn : Word)
  | ldi
  | cpi
  | ini
  | outi
  | ldd
  | cpd
  | ind
  | outd
  | ldir
  | cpir
  | inir
  | otir
  | lddr
  | cpdr
  | indr
  | otdr
  | add_IX_BC
  | add_IX_DE
  | ld_IX_nn (nn : Word)
  | ld_mnn_IX (nn : Word)
  | inc_IX
  | inc_IXH
  | dec_IXH
  | ld_IXH_n (n : Byte)
  | add_IX_IX
  | ld_IX_mnn (nn : Word)
  | dec_IX
  | inc_IXL
  | dec_IXL
  | ld_IXL_n (n : Byte)
  | inc_mIXd (d : Byte)
  | dec_mIXd (d : Byte)
  | ld_mIXd_n (d : Byte) (n : Byte)
  | add_IX_SP
  | ld_B_IXH
  | ld_B_IXL
  | ld_B_mIXd (d : Byte)
  | ld_C_IXH
  | ld_C_IXL
  | ld_C_mIXd (d : Byte)
  | ld_D_IXH
  | ld_D_IXL
  | ld_D_mIXd (d : Byte)
  | ld_E_IXH
  | ld_E_IXL
  | ld_E_mIXd (d : Byte)
  | ld_IXH_B
  | ld_IXH_C
  | ld_IXH_D
  | ld_IXH_E
  | ld_IXH_IXH
  | ld_IXH_IXL
  | ld_H_mIXd (d : Byte)
  | ld_IXH_A
  | ld_IXL_B
  | ld_IXL_C
  | ld_IXL_D
  | ld_IXL_E
  | ld_IXL_IXH
  | ld_IXL_IXL
  | ld_L_mIXd (d : Byte)
  | ld_IXL_A
  | ld_mIXd_B (d : Byte)
  | ld_mIXd_C (d : Byte)
  | ld_mIXd_D (d : Byte)
  | ld_mIXd_E (d : Byte)
  | ld_mIXd_H (d : Byte)
  | ld_mIXd_L (d : Byte)
  | ld_mIXd_A (d : Byte)
  | ld_A_IXH
  | ld_A_IXL
  | ld_A_mIXd (d : Byte)
  | add_A_IXH
  | add_A_IXL
  | add_A_mIXd (d : Byte)
  | adc_A_IXH
  | adc_A_IXL
  | adc_A_mIXd (d : Byte)
  | sub_IXH
  | sub_IXL
  | sub_mIXd (d : Byte)
  | sbc_A_IXH
  | sbc_A_IXL
  | sbc_A_mIXd (d : Byte)
  | and_IXH
  | and_IXL
  | and_mIXd (d : Byte)
  | xor_IXH
  | xor_IXL
  | xor_mIXd (d : Byte)
  | or_IXH
  | or_IXL
  | or_mIXd (d : Byte)
  | cp_IXH
  | cp_IXL
  | cp_mIXd (d : Byte)
  | pop_IX
  | ex_mSP_IX
  | push_IX
  | jp_mIX
  | ld_SP_IX
  | rlc_mIXd_B (d : Byte)
  | rlc_mIXd_C (d : Byte)
  | rlc_mIXd_D (d : Byte)
  | rlc_mIXd_E (d : Byte)
  | rlc_mIXd_H (d : Byte)
  | rlc_mIXd_L (d : Byte)
  | rlc_mIXd (d : Byte)
  | rlc_mIXd_A (d : Byte)
  | rrc_mIXd_B (d : Byte)
  | rrc_mIXd_C (d : Byte)
  | rrc_mIXd_D (d : Byte)
  | rrc_mIXd_E (d : Byte)
  | rrc_mIXd_H (d : Byte)
  | rrc_mIXd_L (d : Byte)
  | rrc_mIXd (d : Byte)
  | rrc_mIXd_A (d : Byte)
  | rl_mIXd_B (d : Byte)
  | rl_mIXd_C (d : Byte)
  | rl_mIXd_D (d : Byte)
  | rl_mIXd_E (d : Byte)
  | rl_mIXd_H (d : Byte)
  | rl_mIXd_L (d : Byte)
  | rl_mIXd (d : Byte)
  | rl_mIXd_A (d : Byte)
  | rr_mIXd_B (d : Byte)
  | rr_mIXd_C (d : Byte)
  | rr_mIXd_D (d : Byte)
  | rr_mIXd_E (d : Byte)
  | rr_mIXd_H (d : Byte)
  | rr_mIXd_L (d : Byte)
  | rr_mIXd (d : Byte)
  | rr_mIXd_A (d : Byte)
  | sla_mIXd_B (d : Byte)
  | sla_mIXd_C (d : Byte)
  | sla_mIXd_D (d : Byte)
  | sla_mIXd_E (d : Byte)
  | sla_mIXd_H (d : Byte)
  | sla_mIXd_L (d : Byte)
  | sla_mIXd (d : Byte)
  | sla_mIXd_A (d : Byte)
  | sra_mIXd_B (d : Byte)
  | sra_mIXd_C (d : Byte)
  | sra_mIXd_D (d : Byte)
  | sra_mIXd_E (d : Byte)
  | sra_mIXd_H (d : Byte)
  | sra_mIXd_L (d : Byte)
  | sra_mIXd (d : Byte)
  | sra_mIXd_A (d : Byte)
  | sll_mIXd_B (d : Byte)
  | sll_mIXd_C (d : Byte)
  | sll_mIXd_D (d : Byte)
  | sll_mIXd_E (d : Byte)
  | sll_mIXd_H (d : Byte)
  | sll_mIXd_L (d : Byte)
  | sll_mIXd (d : Byte)
  | sll_mIXd_A (d : Byte)
  | srl_mIXd_B (d : Byte)
  | srl_mIXd_C (d : Byte)
  | srl_mIXd_D (d : Byte)
  | srl_mIXd_E (d : Byte)
  | srl_mIXd_H (d : Byte)
  | srl_mIXd_L (d : Byte)
  | srl_mIXd (d : Byte)
  | srl_mIXd_A (d : Byte)
  | bit_0_mIXd_z0 (d : Byte)
  | bit_0_mIXd_z1 (d : Byte)
  | bit_0_mIXd_z2 (d : Byte)
  | bit_0_mIXd_z3 (d : Byte)
  | bit_0_mIXd_z4 (d : Byte)
  | bit_0_mIXd_z5 (d : Byte)
  | bit_0_mIXd_z6 (d : Byte)
  | bit_0_mIXd_z7 (d : Byte)
  | bit_1_mIXd_z0 (d : Byte)
  | bit_1_mIXd_z1 (d : Byte)
  | bit_1_mIXd_z2 (d : Byte)
  | bit_1_mIXd_z3 (d : Byte)
  | bit_1_mIXd_z4 (d : Byte)
  | bit_1_mIXd_z5 (d : Byte)
  | bit_1_mIXd_z6 (d : Byte)
  | bit_1_mIXd_z7 (d : Byte)
  | bit_2_mIXd_z0 (d : Byte)
  | bit_2_mIXd_z1 (d : Byte)
  | bit_2_mIXd_z2 (d : Byte)
  | bit_2_mIXd_z3 (d : Byte)
  | bit_2_mIXd_z4 (d : Byte)
  | bit_2_mIXd_z5 (d : Byte)
  | bit_2_mIXd_z6 (d : Byte)
  | bit_2_mIXd_z7 (d : Byte)
  | bit_3_mIXd_z0 (d : Byte)
  | bit_3_mIXd_z1 (d : Byte)
  | bit_3_mIXd_z2 (d : Byte)
  | bit_3_mIXd_z3 (d : Byte)
  | bit_3_mIXd_z4 (d : Byte)
  | bit_3_mIXd_z5 (d : Byte)
  | bit_3_mIXd_z6 (d : Byte)
  | bit_3_mIXd_z7 (d : Byte)
  | bit_4_mIXd_z0 (d : Byte)
  | bit_4_mIXd_z1 (d : Byte)
  | bit_4_mIXd_z2 (d : Byte)
  | bit_4_mIXd_z3 (d : Byte)
  | bit_4_mIXd_z4 (d : Byte)
  | bit_4_mIXd_z5 (d : Byte)
  | bit_4_mIXd_z6 (d : Byte)
  | bit_4_mIXd_z7 (d : Byte)
  | bit_5_mIXd_z0 (d : Byte)
  | bit_5_mIXd_z1 (d : Byte)
  | bit_5_mIXd_z2 (d : Byte)
  | bit_5_mIXd_z3 (d : Byte)
  | bit_5_mIXd_z4 (d : Byte)
  | bit_5_mIXd_z5 (d : Byte)
  | bit_5_mIXd_z6 (d : Byte)
  | bit_5_mIXd_z7 (d : Byte)
  | bit_6_mIXd_z0 (d : Byte)
  | bit_6_mIXd_z1 (d : Byte)
  | bit_6_mIXd_z2 (d : Byte)
  | bit_6_mIXd_z3 (d : Byte)
  | bit_6_mIXd_z4 (d : Byte)
  | bit_6_mIXd_z5 (d : Byte)
  | bit_6_mIXd_z6 (d : Byte)
  | bit_6_mIXd_z7 (d : Byte)
  | bit_7_mIXd_z0 (d : Byte)
  | bit_7_mIXd_z1 (d : Byte)
  | bit_7_mIXd_z2 (d : Byte)
  | bit_7_mIXd_z3 (d : Byte)
  | bit_7_mIXd_z4 (d : Byte)
  | bit_7_mIXd_z5 (d : Byte)
  | bit_7_mIXd_z6 (d : Byte)
  | bit_7_mIXd_z7 (d : Byte)
  | res_0_mIXd_B (d : Byte)
  | res_0_mIXd_C (d : Byte)
  | res_0_mIXd_D (d : Byte)
  | res_0_mIXd_E (d : Byte)
  | res_0_mIXd_H (d : Byte)
  | res_0_mIXd_L (d : Byte)
  | res_0_mIXd (d : Byte)
  | res_0_mIXd_A (d : Byte)
  | res_1_mIXd_B (d : Byte)
  | res_1_mIXd_C (d : Byte)
  | res_1_mIXd_D (d : Byte)
  | res_1_mIXd_E (d : Byte)
  | res_1_mIXd_H (d : Byte)
  | res_1_mIXd_L (d : Byte)
  | res_1_mIXd (d : Byte)
  | res_1_mIXd_A (d : Byte)
  | res_2_mIXd_B (d : Byte)
  | res_2_mIXd_C (d : Byte)
  | res_2_mIXd_D (d : Byte)
  | res_2_mIXd_E (d : Byte)
  | res_2_mIXd_H (d : Byte)
  | res_2_mIXd_L (d : Byte)
  | res_2_mIXd (d : Byte)
  | res_2_mIXd_A (d : Byte)
  | res_3_mIXd_B (d : Byte)
  | res_3_mIXd_C (d : Byte)
  | res_3_mIXd_D (d : Byte)
  | res_3_mIXd_E (d : Byte)
  | res_3_mIXd_H (d : Byte)
  | res_3_mIXd_L (d : Byte)
  | res_3_mIXd (d : Byte)
  | res_3_mIXd_A (d : Byte)
  | res_4_mIXd_B (d : Byte)
  | res_4_mIXd_C (d : Byte)
  | res_4_mIXd_D (d : Byte)
  | res_4_mIXd_E (d : Byte)
  | res_4_mIXd_H (d : Byte)
  | res_4_mIXd_L (d : Byte)
  | res_4_mIXd (d : Byte)
  | res_4_mIXd_A (d : Byte)
  | res_5_mIXd_B (d : Byte)
  | res_5_mIXd_C (d : Byte)
  | res_5_mIXd_D (d : Byte)
  | res_5_mIXd_E (d : Byte)
  | res_5_mIXd_H (d : Byte)
  | res_5_mIXd_L (d : Byte)
  | res_5_mIXd (d : Byte)
  | res_5_mIXd_A (d : Byte)
  | res_6_mIXd_B (d : Byte)
  | res_6_mIXd_C (d : Byte)
  | res_6_mIXd_D (d : Byte)
  | res_6_mIXd_E (d : Byte)
  | res_6_mIXd_H (d : Byte)
  | res_6_mIXd_L (d : Byte)
  | res_6_mIXd (d : Byte)
  | res_6_mIXd_A (d : Byte)
  | res_7_mIXd_B (d : Byte)
  | res_7_mIXd_C (d : Byte)
  | res_7_mIXd_D (d : Byte)
  | res_7_mIXd_E (d : Byte)
  | res_7_mIXd_H (d : Byte)
  | res_7_mIXd_L (d : Byte)
  | res_7_mIXd (d : Byte)
  | res_7_mIXd_A (d : Byte)
  | set_0_mIXd_B (d : Byte)
  | set_0_mIXd_C (d : Byte)
  | set_0_mIXd_D (d : Byte)
  | set_0_mIXd_E (d : Byte)
  | set_0_mIXd_H (d : Byte)
  | set_0_mIXd_L (d : Byte)
  | set_0_mIXd (d : Byte)
  | set_0_mIXd_A (d : Byte)
  | set_1_mIXd_B (d : Byte)
  | set_1_mIXd_C (d : Byte)
  | set_1_mIXd_D (d : Byte)
  | set_1_mIXd_E (d : Byte)
  | set_1_mIXd_H (d : Byte)
  | set_1_mIXd_L (d : Byte)
  | set_1_mIXd (d : Byte)
  | set_1_mIXd_A (d : Byte)
  | set_2_mIXd_B (d : Byte)
  | set_2_mIXd_C (d : Byte)
  | set_2_mIXd_D (d : Byte)
  | set_2_mIXd_E (d : Byte)
  | set_2_mIXd_H (d : Byte)
  | set_2_mIXd_L (d : Byte)
  | set_2_mIXd (d : Byte)
  | set_2_mIXd_A (d : Byte)
  | set_3_mIXd_B (d : Byte)
  | set_3_mIXd_C (d : Byte)
  | set_3_mIXd_D (d : Byte)
  | set_3_mIXd_E (d : Byte)
  | set_3_mIXd_H (d : Byte)
  | set_3_mIXd_L (d : Byte)
  | set_3_mIXd (d : Byte)
  | set_3_mIXd_A (d : Byte)
  | set_4_mIXd_B (d : Byte)
  | set_4_mIXd_C (d : Byte)
  | set_4_mIXd_D (d : Byte)
  | set_4_mIXd_E (d : Byte)
  | set_4_mIXd_H (d : Byte)
  | set_4_mIXd_L (d : Byte)
  | set_4_mIXd (d : Byte)
  | set_4_mIXd_A (d : Byte)
  | set_5_mIXd_B (d : Byte)
  | set_5_mIXd_C (d : Byte)
  | set_5_mIXd_D (d : Byte)
  | set_5_mIXd_E (d : Byte)
  | set_5_mIXd_H (d : Byte)
  | set_5_mIXd_L (d : Byte)
  | set_5_mIXd (d : Byte)
  | set_5_mIXd_A (d : Byte)
  | set_6_mIXd_B (d : Byte)
  | set_6_mIXd_C (d : Byte)
  | set_6_mIXd_D (d : Byte)
  | set_6_mIXd_E (d : Byte)
  | set_6_mIXd_H (d : Byte)
  | set_6_mIXd_L (d : Byte)
  | set_6_mIXd (d : Byte)
  | set_6_mIXd_A (d : Byte)
  | set_7_mIXd_B (d : Byte)
  | set_7_mIXd_C (d : Byte)
  | set_7_mIXd_D (d : Byte)
  | set_7_mIXd_E (d : Byte)
  | set_7_mIXd_H (d : Byte)
  | set_7_mIXd_L (d : Byte)
  | set_7_mIXd (d : Byte)
  | set_7_mIXd_A (d : Byte)
  | add_IY_BC
  | add_IY_DE
  | ld_IY_nn (nn : Word)
  | ld_mnn_IY (nn : Word)
  | inc_IY
  | inc_IYH
  | dec_IYH
  | ld_IYH_n (n : Byte)
  | add_IY_IY
  | ld_IY_mnn (nn : Word)
  | dec_IY
  | inc_IYL
  | dec_IYL
  | ld_IYL_n (n : Byte)
  | inc_mIYd (d : Byte)
  | dec_mIYd (d : Byte)
  | ld_mIYd_n (d : Byte) (n : Byte)
  | add_IY_SP
  | ld_B_IYH
  | ld_B_IYL
  | ld_B_mIYd (d : Byte)
  | ld_C_IYH
  | ld_C_IYL
  | ld_C_mIYd (d : Byte)
  | ld_D_IYH
  | ld_D_IYL
  | ld_D_mIYd (d : Byte)
  | ld_E_IYH
  | ld_E_IYL
  | ld_E_mIYd (d : Byte)
  | ld_IYH_B
  | ld_IYH_C
  | ld_IYH_D
  | ld_IYH_E
  | ld_IYH_IYH
  | ld_IYH_IYL
  | ld_H_mIYd (d : Byte)
  | ld_IYH_A
  | ld_IYL_B
  | ld_IYL_C
  | ld_IYL_D
  | ld_IYL_E
  | ld_IYL_IYH
  | ld_IYL_IYL
  | ld_L_mIYd (d : Byte)
  | ld_IYL_A
  | ld_mIYd_B (d : Byte)
  | ld_mIYd_C (d : Byte)
  | ld_mIYd_D (d : Byte)
  | ld_mIYd_E (d : Byte)
  | ld_mIYd_H (d : Byte)
  | ld_mIYd_L (d : Byte)
  | ld_mIYd_A (d : Byte)
  | ld_A_IYH
  | ld_A_IYL
  | ld_A_mIYd (d : Byte)
  | add_A_IYH
  | add_A_IYL
  | add_A_mIYd (d : Byte)
  | adc_A_IYH
  | adc_A_IYL
  | adc_A_mIYd (d : Byte)
  | sub_IYH
  | sub_IYL
  | sub_mIYd (d : Byte)
  | sbc_A_IYH
  | sbc_A_IYL
  | sbc_A_mIYd (d : Byte)
  | and_IYH
  | and_IYL
  | and_mIYd (d : Byte)
  | xor_IYH
  | xor_IYL
  | xor_mIYd (d : Byte)
  | or_IYH
  | or_IYL
  | or_mIYd (d : Byte)
  | cp_IYH
  | cp_IYL
  | cp_mIYd (d : Byte)
  | pop_IY
  | ex_mSP_IY
  | push_IY
  | jp_mIY
  | ld_SP_IY
  | rlc_mIYd_B (d : Byte)
  | rlc_mIYd_C (d : Byte)
  | rlc_mIYd_D (d : Byte)
  | rlc_mIYd_E (d : Byte)
  | rlc_mIYd_H (d : Byte)
  | rlc_mIYd_L (d : Byte)
  | rlc_mIYd (d : Byte)
  | rlc_mIYd_A (d : Byte)
  | rrc_mIYd_B (d : Byte)
  | rrc_mIYd_C (d : Byte)
  | rrc_mIYd_D (d : Byte)
  | rrc_mIYd_E (d : Byte)
  | rrc_mIYd_H (d : Byte)
  | rrc_mIYd_L (d : Byte)
  | rrc_mIYd (d : Byte)
  | rrc_mIYd_A (d : Byte)
  | rl_mIYd_B (d : Byte)
  | rl_mIYd_C (d : Byte)
  | rl_mIYd_D (d : Byte)
  | rl_mIYd_E (d : Byte)
  | rl_mIYd_H (d : Byte)
  | rl_mIYd_L (d : Byte)
  | rl_mIYd (d : Byte)
  | rl_mIYd_A (d : Byte)
  | rr_mIYd_B (d : Byte)
  | rr_mIYd_C (d : Byte)
  | rr_mIYd_D (d : Byte)
  | rr_mIYd_E (d : Byte)
  | rr_mIYd_H (d : Byte)
  | rr_mIYd_L (d : Byte)
  | rr_mIYd (d : Byte)
  | rr_mIYd_A (d : Byte)
  | sla_mIYd_B (d : Byte)
  | sla_mIYd_C (d : Byte)
  | sla_mIYd_D (d : Byte)
  | sla_mIYd_E (d : Byte)
  | sla_mIYd_H (d : Byte)
  | sla_mIYd_L (d : Byte)
  | sla_mIYd (d : Byte)
  | sla_mIYd_A (d : Byte)
  | sra_mIYd_B (d : Byte)
  | sra_mIYd_C (d : Byte)
  | sra_mIYd_D (d : Byte)
  | sra_mIYd_E (d : Byte)
  | sra_mIYd_H (d : Byte)
  | sra_mIYd_L (d : Byte)
  | sra_mIYd (d : Byte)
  | sra_mIYd_A (d : Byte)
  | sll_mIYd_B (d : Byte)
  | sll_mIYd_C (d : Byte)
  | sll_mIYd_D (d : Byte)
  | sll_mIYd_E (d : Byte)
  | sll_mIYd_H (d : Byte)
  | sll_mIYd_L (d : Byte)
  | sll_mIYd (d : Byte)
  | sll_mIYd_A (d : Byte)
  | srl_mIYd_B (d : Byte)
  | srl_mIYd_C (d : Byte)
  | srl_mIYd_D (d : Byte)
  | srl_mIYd_E (d : Byte)
  | srl_mIYd_H (d : Byte)
  | srl_mIYd_L (d : Byte)
  | srl_mIYd (d : Byte)
  | srl_mIYd_A (d : Byte)
  | bit_0_mIYd_z0 (d : Byte)
  | bit_0_mIYd_z1 (d : Byte)
  | bit_0_mIYd_z2 (d : Byte)
  | bit_0_mIYd_z3 (d : Byte)
  | bit_0_mIYd_z4 (d : Byte)
  | bit_0_mIYd_z5 (d : Byte)
  | bit_0_mIYd_z6 (d : Byte)
  | bit_0_mIYd_z7 (d : Byte)
  | bit_1_mIYd_z0 (d : Byte)
  | bit_1_mIYd_z1 (d : Byte)
  | bit_1_mIYd_z2 (d : Byte)
  | bit_1_mIYd_z3 (d : Byte)
  | bit_1_mIYd_z4 (d : Byte)
  | bit_1_mIYd_z5 (d : Byte)
  | bit_1_mIYd_z6 (d : Byte)
  | bit_1_mIYd_z7 (d : Byte)
  | bit_2_mIYd_z0 (d : Byte)
  | bit_2_mIYd_z1 (d : Byte)
  | bit_2_mIYd_z2 (d : Byte)
  | bit_2_mIYd_z3 (d : Byte)
  | bit_2_mIYd_z4 (d : Byte)
  | bit_2_mIYd_z5 (d : Byte)
  | bit_2_mIYd_z6 (d : Byte)
  | bit_2_mIYd_z7 (d : Byte)
  | bit_3_mIYd_z0 (d : Byte)
  | bit_3_mIYd_z1 (d : Byte)
  | bit_3_mIYd_z2 (d : Byte)
  | bit_3_mIYd_z3 (d : Byte)
  | bit_3_mIYd_z4 (d : Byte)
  | bit_3_mIYd_z5 (d : Byte)
  | bit_3_mIYd_z6 (d : Byte)
  | bit_3_mIYd_z7 (d : Byte)
  | bit_4_mIYd_z0 (d : Byte)
  | bit_4_mIYd_z1 (d : Byte)
  | bit_4_mIYd_z2 (d : Byte)
  | bit_4_mIYd_z3 (d : Byte)
  | bit_4_mIYd_z4 (d : Byte)
  | bit_4_mIYd_z5 (d : Byte)
  | bit_4_mIYd_z6 (d : Byte)
  | bit_4_mIYd_z7 (d : Byte)
  | bit_5_mIYd_z0 (d : Byte)
  | bit_5_mIYd_z1 (d : Byte)
  | bit_5_mIYd_z2 (d : Byte)
  | bit_5_mIYd_z3 (d : Byte)
  | bit_5_mIYd_z4 (d : Byte)
  | bit_5_mIYd_z5 (d : Byte)
  | bit_5_mIYd_z6 (d : Byte)
  | bit_5_mIYd_z7 (d : Byte)
  | bit_6_mIYd_z0 (d : Byte)
  | bit_6_mIYd_z1 (d : Byte)
  | bit_6_mIYd_z2 (d : Byte)
  | bit_6_mIYd_z3 (d : Byte)
  | bit_6_mIYd_z4 (d : Byte)
  | bit_6_mIYd_z5 (d : Byte)
  | bit_6_mIYd_z6 (d : Byte)
  | bit_6_mIYd_z7 (d : Byte)
  | bit_7_mIYd_z0 (d : Byte)
  | bit_7_mIYd_z1 (d : Byte)
  | bit_7_mIYd_z2 (d : Byte)
  | bit_7_mIYd_z3 (d : Byte)
  | bit_7_mIYd_z4 (d : Byte)
  | bit_7_mIYd_z5 (d : Byte)
  | bit_7_mIYd_z6 (d : Byte)
  | bit_7_mIYd_z7 (d : Byte)
  | res_0_mIYd_B (d : Byte)
  | res_0_mIYd_C (d : Byte)
  | res_0_mIYd_D (d : Byte)
  | res_0_mIYd_E (d : Byte)
  | res_0_mIYd_H (d : Byte)
  | res_0_mIYd_L (d : Byte)
  | res_0_mIYd (d : Byte)
  | res_0_mIYd_A (d : Byte)
  | res_1_mIYd_B (d : Byte)
  | res_1_mIYd_C (d : Byte)
  | res_1_mIYd_D (d : Byte)
  | res_1_mIYd_E (d : Byte)
  | res_1_mIYd_H (d : Byte)
  | res_1_mIYd_L (d : Byte)
  | res_1_mIYd (d : Byte)
  | res_1_mIYd_A (d : Byte)
  | res_2_mIYd_B (d : Byte)
  | res_2_mIYd_C (d : Byte)
  | res_2_mIYd_D (d : Byte)
  | res_2_mIYd_E (d : Byte)
  | res_2_mIYd_H (d : Byte)
  | res_2_mIYd_L (d : Byte)
  | res_2_mIYd (d : Byte)
  | res_2_mIYd_A (d : Byte)
  | res_3_mIYd_B (d : Byte)
  | res_3_mIYd_C (d : Byte)
  | res_3_mIYd_D (d : Byte)
  | res_3_mIYd_E (d : Byte)
  | res_3_mIYd_H (d : Byte)
  | res_3_mIYd_L (d : Byte)
  | res_3_mIYd (d : Byte)
  | res_3_mIYd_A (d : Byte)
  | res_4_mIYd_B (d : Byte)
  | res_4_mIYd_C (d : Byte)
  | res_4_mIYd_D (d : Byte)
  | res_4_mIYd_E (d : Byte)
  | res_4_mIYd_H (d : Byte)
  | res_4_mIYd_L (d : Byte)
  | res_4_mIYd (d : Byte)
  | res_4_mIYd_A (d : Byte)
  | res_5_mIYd_B (d : Byte)
  | res_5_mIYd_C (d : Byte)
  | res_5_mIYd_D (d : Byte)
  | res_5_mIYd_E (d : Byte)
  | res_5_mIYd_H (d : Byte)
  | res_5_mIYd_L (d : Byte)
  | res_5_mIYd (d : Byte)
  | res_5_mIYd_A (d : Byte)
  | res_6_mIYd_B (d : Byte)
  | res_6_mIYd_C (d : Byte)
  | res_6_mIYd_D (d : Byte)
  | res_6_mIYd_E (d : Byte)
  | res_6_mIYd_H (d : Byte)
  | res_6_mIYd_L (d : Byte)
  | res_6_mIYd (d : Byte)
  | res_6_mIYd_A (d : Byte)
  | res_7_mIYd_B (d : Byte)
  | res_7_mIYd_C (d : Byte)
  | res_7_mIYd_D (d : Byte)
  | res_7_mIYd_E (d : Byte)
  | res_7_mIYd_H (d : Byte)
  | res_7_mIYd_L (d : Byte)
  | res_7_mIYd (d : Byte)
  | res_7_mIYd_A (d : Byte)
  | set_0_mIYd_B (d : Byte)
  | set_0_mIYd_C (d : Byte)
  | set_0_mIYd_D (d : Byte)
  | set_0_mIYd_E (d : Byte)
  | set_0_mIYd_H (d : Byte)
  | set_0_mIYd_L (d : Byte)
  | set_0_mIYd (d : Byte)
  | set_0_mIYd_A (d : Byte)
  | set_1_mIYd_B (d : Byte)
  | set_1_mIYd_C (d : Byte)
  | set_1_mIYd_D (d : Byte)
  | set_1_mIYd_E (d : Byte)
  | set_1_mIYd_H (d : Byte)
  | set_1_mIYd_L (d : Byte)
  | set_1_mIYd (d : Byte)
  | set_1_mIYd_A (d : Byte)
  | set_2_mIYd_B (d : Byte)
  | set_2_mIYd_C (d : Byte)
  | set_2_mIYd_D (d : Byte)
  | set_2_mIYd_E (d : Byte)
  | set_2_mIYd_H (d : Byte)
  | set_2_mIYd_L (d : Byte)
  | set_2_mIYd (d : Byte)
  | set_2_mIYd_A (d : Byte)
  | set_3_mIYd_B (d : Byte)
  | set_3_mIYd_C (d : Byte)
  | set_3_mIYd_D (d : Byte)
  | set_3_mIYd_E (d : Byte)
  | set_3_mIYd_H (d : Byte)
  | set_3_mIYd_L (d : Byte)
  | set_3_mIYd (d : Byte)
  | set_3_mIYd_A (d : Byte)
  | set_4_mIYd_B (d : Byte)
  | set_4_mIYd_C (d : Byte)
  | set_4_mIYd_D (d : Byte)
  | set_4_mIYd_E (d : Byte)
  | set_4_mIYd_H (d : Byte)
  | set_4_mIYd_L (d : Byte)
  | set_4_mIYd (d : Byte)
  | set_4_mIYd_A (d : Byte)
  | set_5_mIYd_B (d : Byte)
  | set_5_mIYd_C (d : Byte)
  | set_5_mIYd_D (d : Byte)
  | set_5_mIYd_E (d : Byte)
  | set_5_mIYd_H (d : Byte)
  | set_5_mIYd_L (d : Byte)
  | set_5_mIYd (d : Byte)
  | set_5_mIYd_A (d : Byte)
  | set_6_mIYd_B (d : Byte)
  | set_6_mIYd_C (d : Byte)
  | set_6_mIYd_D (d : Byte)
  | set_6_mIYd_E (d : Byte)
  | set_6_mIYd_H (d : Byte)
  | set_6_mIYd_L (d : Byte)
  | set_6_mIYd (d : Byte)
  | set_6_mIYd_A (d : Byte)
  | set_7_mIYd_B (d : Byte)
  | set_7_mIYd_C (d : Byte)
  | set_7_mIYd_D (d : Byte)
  | set_7_mIYd_E (d : Byte)
  | set_7_mIYd_H (d : Byte)
  | set_7_mIYd_L (d : Byte)
  | set_7_mIYd (d : Byte)
  | set_7_mIYd_A (d : Byte)
  deriving DecidableEq, Repr

end Sys2Proof
end

