-- ==== Sys2Proof/Machine/Flags.lean ====
section
/-! DEFINITION. The flag register and every flag computation of the spec: the encoders of 10_state.md
R40 and R41, the adders of 43_alu8.md R300 and R301, INC and DEC (R318, R321), DAA, CPL, CCF, SCF
(44_general_cpu_control.md), the 16-bit adders (45_alu16.md R359), the rotate kernel
(46_rotate_shift.md R384), BIT (47_bit.md R400), the block units (42_exchange_block.md R266, R270;
49_io.md R452, R458) and the test helper of R42. -/

namespace Sys2Proof.Machine

/-- The eight flags of R40, from bit 7 to bit 0. -/
structure Flags where
  /-- Bit 7, sign. -/
  s  : Bool
  /-- Bit 6, zero. -/
  z  : Bool
  /-- Bit 5, the copy bit Y. -/
  y  : Bool
  /-- Bit 4, half-carry. -/
  h  : Bool
  /-- Bit 3, the copy bit X. -/
  x  : Bool
  /-- Bit 2, parity or overflow. -/
  pv : Bool
  /-- Bit 1, add/subtract. -/
  n  : Bool
  /-- Bit 0, carry. -/
  c  : Bool
  deriving DecidableEq, Repr

/-- The mask m where the flag is set, else nothing. -/
def flagMask (b : Bool) (m : Byte) : Byte := if b then m else 0x00

/-- The flag byte: each flag at its position of R40. -/
def Flags.toByte (f : Flags) : Byte :=
  flagMask f.s 0x80 ||| flagMask f.z 0x40 ||| flagMask f.y 0x20 ||| flagMask f.h 0x10 |||
    flagMask f.x 0x08 ||| flagMask f.pv 0x04 ||| flagMask f.n 0x02 ||| flagMask f.c 0x01

/-- The flags a byte holds (R40). -/
def Flags.ofByte (v : Byte) : Flags where
  s  := v.getLsbD 7
  z  := v.getLsbD 6
  y  := v.getLsbD 5
  h  := v.getLsbD 4
  x  := v.getLsbD 3
  pv := v.getLsbD 2
  n  := v.getLsbD 1
  c  := v.getLsbD 0

/-- `SZXY(v)` of R41: S, Z, Y and X from v, the others 0. -/
def szxy (v : Byte) : Flags where
  s := v.getLsbD 7
  z := v == 0
  y := v.getLsbD 5
  h := false
  x := v.getLsbD 3
  pv := false
  n := false
  c := false

/-- `SZXYP(v)` of R41: `SZXY(v)` with PV the parity of v. -/
def szxyp (v : Byte) : Flags := { szxy v with pv := parity v }

/-- `FlagsMatch(f, expected)` of R42, the test helper that masks out bits 5 and 3. -/
def flagsMatch (f expected : Byte) : Bool := (f ^^^ expected) &&& 0xD7 == 0

/-- `Add8(a, b, c)` of R300. -/
def add8 (a b : Byte) (c : Bool) : Byte × Flags :=
  let t := a.toNat + b.toNat + c.toNat
  let r := BitVec.ofNat 8 t
  (r, { szxy r with
        h := (a ^^^ b ^^^ r).getLsbD 4
        pv := ((a ^^^ r) &&& (b ^^^ r)).getLsbD 7
        c := t > 0xFF })

/-- `Sub8(a, b, c)` of R300. -/
def sub8 (a b : Byte) (c : Bool) : Byte × Flags :=
  let t : Int := a.toNat - b.toNat - c.toNat
  let r := BitVec.ofInt 8 t
  (r, { szxy r with
        h := (a ^^^ b ^^^ r).getLsbD 4
        pv := ((a ^^^ b) &&& (a ^^^ r)).getLsbD 7
        n := true
        c := t < 0 })

/-- `FLogic(r, h)` of R301. -/
def flogic (r : Byte) (h : Bool) : Flags := { szxyp r with h := h }

/-- INC of an 8-bit operand v under the old flags (R318): result and flags. -/
def inc8 (v : Byte) (old : Flags) : Byte × Flags :=
  let res := v + 1
  (res, { szxy res with h := v &&& 0x0F == 0x0F, pv := v == 0x7F, c := old.c })

/-- DEC of an 8-bit operand v under the old flags (R321): result and flags. -/
def dec8 (v : Byte) (old : Flags) : Byte × Flags :=
  let res := v - 1
  (res, { szxy res with h := v &&& 0x0F == 0x00, pv := v == 0x80, n := true, c := old.c })

/-- DAA of a under the flags f (R330): result and flags. -/
def daa8 (a : Byte) (f : Flags) : Byte × Flags :=
  let low := f.h || (a &&& 0x0F).toNat > 9
  let high := f.c || a.toNat > 0x99
  let corr : Byte := flagMask low 0x06 ||| flagMask high 0x60
  let res := if f.n then a - corr else a + corr
  let h := if f.n then f.h && (a &&& 0x0F).toNat < 6 else (a &&& 0x0F).toNat > 9
  (res, { szxyp res with h := h, n := f.n, c := f.c || high })

/-- CPL of a under the flags f (R331): result and flags. -/
def cpl8 (a : Byte) (f : Flags) : Byte × Flags :=
  let res := a ^^^ 0xFF
  (res, { f with h := true, n := true, y := res.getLsbD 5, x := res.getLsbD 3 })

/-- The flags of CCF with accumulator a (R333). -/
def ccfFlags (a : Byte) (f : Flags) : Flags :=
  { f with y := a.getLsbD 5, x := a.getLsbD 3, h := f.c, n := false, c := !f.c }

/-- The flags of SCF with accumulator a (R334). -/
def scfFlags (a : Byte) (f : Flags) : Flags :=
  { f with y := a.getLsbD 5, x := a.getLsbD 3, h := false, n := false, c := true }

/-- The copy bits of a 16-bit result: bits 5 and 3 of its high byte (R359). -/
def xyOfHigh (r : Word) (f : Flags) : Flags := { f with y := r.getLsbD 13, x := r.getLsbD 11 }

/-- `Add16(a, b)` of R359: S, Z and PV kept. -/
def add16 (a b : Word) (old : Flags) : Word × Flags :=
  let t := a.toNat + b.toNat
  let r := BitVec.ofNat 16 t
  (r, xyOfHigh r { old with h := (a ^^^ b ^^^ r).getLsbD 12, n := false, c := t > 0xFFFF })

/-- `Adc16(a, b, c)` of R359. -/
def adc16 (a b : Word) (c : Bool) : Word × Flags :=
  let t := a.toNat + b.toNat + c.toNat
  let r := BitVec.ofNat 16 t
  (r, xyOfHigh r
        { s := r.getLsbD 15, z := r == 0, y := false, x := false
          h := (a ^^^ b ^^^ r).getLsbD 12
          pv := ((a ^^^ r) &&& (b ^^^ r)).getLsbD 15
          n := false, c := t > 0xFFFF })

/-- `Sbc16(a, b, c)` of R359. -/
def sbc16 (a b : Word) (c : Bool) : Word × Flags :=
  let t : Int := a.toNat - b.toNat - c.toNat
  let r := BitVec.ofInt 16 t
  (r, xyOfHigh r
        { s := r.getLsbD 15, z := r == 0, y := false, x := false
          h := (a ^^^ b ^^^ r).getLsbD 12
          pv := ((a ^^^ b) &&& (a ^^^ r)).getLsbD 15
          n := true, c := t < 0 })

/-- `Rot(k, v)` with carry-in cin (R384): the result and the bit shifted out. -/
def rot (k : RotOp) (v : Byte) (cin : Bool) : Byte × Bool :=
  match k with
  | .rlc => ((v <<< 1) ||| flagMask (v.getLsbD 7) 0x01, v.getLsbD 7)
  | .rrc => ((v >>> 1) ||| flagMask (v.getLsbD 0) 0x80, v.getLsbD 0)
  | .rl  => ((v <<< 1) ||| flagMask cin 0x01, v.getLsbD 7)
  | .rr  => ((v >>> 1) ||| flagMask cin 0x80, v.getLsbD 0)
  | .sla => (v <<< 1, v.getLsbD 7)
  | .sra => ((v >>> 1) ||| flagMask (v.getLsbD 7) 0x80, v.getLsbD 0)
  | .sll => ((v <<< 1) ||| 0x01, v.getLsbD 7)
  | .srl => (v >>> 1, v.getLsbD 0)

/-- The recompute form of R384. -/
def rotRecompute (res : Byte) (cout : Bool) : Flags := { szxyp res with c := cout }

/-- The preserve form of R384: S, Z and PV kept. -/
def rotPreserve (res : Byte) (cout : Bool) (old : Flags) : Flags :=
  { old with h := false, n := false, y := res.getLsbD 5, x := res.getLsbD 3, c := cout }

/-- The flags of BIT b on v, with Y and X from `src` (R400, R401, R402). -/
def bitFlags (b : Nat) (v src : Byte) (old : Flags) : Flags where
  s := b == 7 && v.getLsbD b
  z := !v.getLsbD b
  y := src.getLsbD 5
  h := true
  x := src.getLsbD 3
  pv := !v.getLsbD b
  n := false
  c := old.c

/-- The flags of a block transfer unit (R266): n = v + A, bc the count after the decrement. -/
def ldUnitFlags (n : Byte) (bc : Word) (old : Flags) : Flags :=
  { old with h := false, n := false, y := n.getLsbD 1, x := n.getLsbD 3, pv := bc != 0 }

/-- The flags of a block compare unit (R270) of a and v, bc the count after the decrement. -/
def cpUnitFlags (a v : Byte) (bc : Word) (old : Flags) : Flags :=
  let r := a - v
  let h := (a ^^^ v ^^^ r).getLsbD 4
  let n := if h then r - 1 else r
  { s := r.getLsbD 7, z := r == 0, y := n.getLsbD 1, h := h, x := n.getLsbD 3
    pv := bc != 0, n := true, c := old.c }

/-- The flags of a block I/O unit (R452, R458): v the byte moved, b the new B, k the sum. -/
def ioUnitFlags (v b : Byte) (k : Nat) : Flags :=
  { szxy b with
    n := v.getLsbD 7
    h := k > 0xFF
    c := k > 0xFF
    pv := parity (BitVec.ofNat 8 (k &&& 7) ^^^ b) }

end Sys2Proof.Machine
end

