-- ==== Sys2Proof/Config.lean ====
section
/-! DEFINITION. The implementation parameters of 00_scope.md R7, the data a platform supplies, and the
free values: what a peripheral answers to a port access and what its handler does meanwhile. -/

namespace Sys2Proof

/-- The source descriptor of one page (20_memory.md R82): nothing, or a backing store (named by its
index among the platform's stores), the index in it of the page's first byte, and the read-only flag. -/
inductive PageSource where
  | unmapped
  | mapped (store : Nat) (base : Nat) (readonly : Bool)
  deriving DecidableEq, Repr

/-- What a port handler may do to the block from inside `IoRead` or `IoWrite` (R86, R101, R501): a
`remap` of `count` pages from `first`, or a daisy-chain request of node `k`. -/
inductive HandlerAction where
  | remap (first count : Nat) (source : PageSource)
  | chainRequest (k : Nat)
  deriving DecidableEq, Repr

/-- One answer of the peripheral collaborators to a port access: the byte a read returns (a write
ignores it) and what the handler does to the block before it returns (R100, R101). -/
structure HandlerReply where
  value   : Byte
  actions : List HandlerAction
  deriving DecidableEq, Repr

/-- `P_CP_XY_SOURCE` (43_alu8.md R317, 90_conflicts.md C3): where CP takes F.Y and F.X from. -/
inductive CpXySource where
  | result
  | operand
  deriving DecidableEq, Repr

/-- `P_IM2_DISPATCH` (60_exceptions.md R511, 90_conflicts.md C4): the vector address is the handler, or
holds the handler's address. -/
inductive Im2Dispatch where
  | direct
  | table
  deriving DecidableEq, Repr

/-- The two parameters of R7 for which the spec gives both behaviours. No step changes them. -/
structure Params where
  cpXySource  : CpXySource
  im2Dispatch : Im2Dispatch
  deriving DecidableEq, Repr

/-- The defaults of R7: `result` and `direct`. -/
def Params.default : Params := ⟨.result, .direct⟩

namespace Config

/-- `P_PAGE_SHIFT = 10` (R81, D1): a page is 2^10 bytes. DESIGN CHOICE of the spec, safe to read as its
value: log entry 8. -/
def pageSize : Nat := 1024

/-- `NPAGES = 2^(16 - P_PAGE_SHIFT)` (R81). -/
def nPages : Nat := 64

/-- `P_UNMAPPED_FILL = 0xFF` (R83, D2): what a read of an unmapped page returns. -/
def unmappedFill : Byte := 0xFF

/-- What a store byte that nothing has set reads as. DESIGN CHOICE, unsafe: log entry 5. -/
def storeFill : Byte := 0x00

/-- `P_INVALID_CYCLES = 4` (R520, D11). -/
def invalidCycles : Nat := 4

/-- `P_INT_ACK_CYCLES = 19` (R510, D22). -/
def intAckCycles : Nat := 19

/-- `P_PC_HISTORY_DEPTH`, open in the spec (R57, D30). DESIGN CHOICE for State.reset: log entry 7. -/
def historyDepth : Nat := 16

/-- `P_IO_READ` (R100, D6): the byte the n-th port access reads. A free value: log entry 2. -/
opaque portRead : Nat → Byte

/-- What the handler of the n-th port access does to the block (R86, R101, R501). A free value: log
entry 3. -/
opaque handlerActions : Nat → List HandlerAction

end Config

end Sys2Proof
end

