-- ==== Sys2Proof/Machine/State.lean ====
section
/-! DEFINITION. The whole state of the CORE block (10_state.md R30 to R60, 20_memory.md R82,
60_exceptions.md R500, 70_reset_and_hazards.md R600 to R602) as plain data, the reasons a step can
stop, and the state after reset. -/

namespace Sys2Proof.Machine

/-- The interrupt modes (R51). Only mode 2 is supported. -/
inductive IntMode where
  | im0
  | im1
  | im2
  deriving DecidableEq, Repr

/-- One node of the daisy chain (R56): its request latch REQ, its under-service bit IUS, its vector. -/
structure Node where
  req : Bool
  ius : Bool
  vec : Byte
  deriving DecidableEq, Repr

/-- A backing store (R82): a byte array of `size` bytes. `cells` lists, at strictly rising indexes,
exactly the bytes that differ from `Config.storeFill`. -/
structure Store where
  size  : Nat
  cells : List Host.Cell
  deriving DecidableEq, Repr

/-- The address-space multiplexer and the interrupt chain: all that a port handler may change from
inside an access (R86, R101). -/
structure Bus where
  /-- The platform's backing stores (`P_STORES`). -/
  stores     : List Store
  /-- MAP: the source descriptor of each page (R82). -/
  map        : List PageSource
  /-- The daisy chain in link order, node 0 nearest the CPU (R500). -/
  chain      : List Node
  /-- INT_PENDING (R54). -/
  intPending : Bool
  deriving DecidableEq, Repr

/-- A recorded port access (R100, R101). -/
inductive IoEvent where
  | read (port : Word) (value : Byte)
  | write (port : Word) (value : Byte)
  deriving DecidableEq, Repr

/-- Whether the machine exists: `power_on` makes it, `power_off` ends it (R601, R602). -/
inductive Power where
  | on
  | off
  deriving DecidableEq, Repr

/-- The state of the machine between steps. Each register pair is one 16-bit value (R31); its halves
are computed by the accessors of Machine/Ops.lean. -/
structure State where
  /-- A : F (R30). -/
  af  : Word
  /-- B : C (R30). -/
  bc  : Word
  /-- D : E (R30). -/
  de  : Word
  /-- H : L (R30). -/
  hl  : Word
  /-- W : Z, the internal pair also called MEMPTR (R33). -/
  wz  : Word
  /-- The shadow of AF (R32). -/
  af' : Word
  /-- The shadow of BC (R32). -/
  bc' : Word
  /-- The shadow of DE (R32). -/
  de' : Word
  /-- The shadow of HL (R32). -/
  hl' : Word
  /-- The shadow of WZ (R32). -/
  wz' : Word
  /-- IXH : IXL (R34). -/
  ix  : Word
  /-- IYH : IYL (R34). -/
  iy  : Word
  /-- The stack pointer (R35). -/
  sp  : Word
  /-- The program counter (R36). -/
  pc  : Word
  /-- The interrupt vector register I (R37). -/
  i   : Byte
  /-- The refresh register R (R38). -/
  r   : Byte
  /-- The interrupt mode (R51). -/
  im  : IntMode
  /-- The first interrupt-enable flip-flop (R50). -/
  iff1 : Bool
  /-- The second interrupt-enable flip-flop (R50). -/
  iff2 : Bool
  /-- The halt flag (R52). -/
  halted : Bool
  /-- The invalid-opcode flag (R53). -/
  inv : Bool
  /-- The one-boundary deferral after EI (R55). -/
  eiShadow : Bool
  /-- The PC history ring (R57); its length is `P_PC_HISTORY_DEPTH`. -/
  hist : List Word
  /-- The ring's write index (R57). -/
  hidx : Nat
  /-- Stores, page map, chain and INT_PENDING. -/
  bus : Bus
  /-- The configured parameters (R7): log entry 9. -/
  params : Params
  /-- The count the last step returned (R620). DESIGN CHOICE, safe: log entry 10. -/
  cycles : Nat
  /-- The I/O events so far, newest first (R100, R101): log entry 11. -/
  ioLog : List IoEvent
  /-- How many port accesses were made: the argument of the free values. Log entry 11. -/
  ioCount : Nat
  /-- The answers waiting at the ports, the next first; a free value where empty. Log entry 11. -/
  ioScript : List HandlerReply
  /-- Whether the machine is powered (R601, R602): log entry 12. -/
  power : Power
  /-- The recorded fault, if any: the pc of the first byte of the step that faulted (R530), or the pc of
  the halted idle that did (log entry 26). -/
  faulted : Option Word
  deriving DecidableEq, Repr

/-- Why a step faults. -/
inductive Fault where
  /-- `Fault(UnsupportedInterruptMode)` (R530), the spec's only fault, with the pc of the step's first
  byte (the unchanged pc of a halted idle, which has none: log entry 26). Raised by IM 0 and IM 1
  (R339, R340) and by an interrupt's acceptance with IM not 2 (R531).
  Safe: the spec's own outcome, nothing of the step is kept. -/
  | unsupportedInterruptMode (pc : Word)
  deriving DecidableEq, Repr

/-- Why a step or a host call is refused. -/
inductive Refusal where
  /-- Raised by exec for an instruction that has no meaning yet; safe. No arm of this model does. -/
  | notModelled (mnemonic : String)
  /-- Raised by step on a faulted machine (R530, R660); safe: the spec defines no further step. -/
  | machineFaulted
  /-- Raised by step and by host calls on a powered-off machine (R602, R660); safe. -/
  | poweredOff
  /-- Raised by the host call remap for a range that breaks a precondition of R85; safe. -/
  | badRemap
  /-- Raised by the host call ChainRequest for k >= N (R660); safe. -/
  | noSuchNode
  /-- Raised by the register accessor for an identifier outside the set of R59; safe. -/
  | unknownRegister
  /-- Raised by the register accessor for a value the register cannot hold: log entry 19; safe. -/
  | badRegisterValue
  /-- Raised by power_on for a variant whose CPU is not a Z80 (R601); safe. -/
  | notZ80Variant
  /-- Raised by power_on for a platform whose page map names bytes no store has: log entry 22; safe. -/
  | badPlatform
  deriving DecidableEq, Repr

/-- What a meaning and a step answer. -/
abbrev Result := Host.Outcome State Fault Refusal

/-- `P_RESET_DRAW` (R60, D40): one value for every register that reset leaves unspecified. -/
structure ResetDraw where
  af : Word
  bc : Word
  de : Word
  hl : Word
  wz : Word
  af' : Word
  bc' : Word
  de' : Word
  hl' : Word
  wz' : Word
  ix : Word
  iy : Word
  sp : Word
  deriving DecidableEq, Repr

/-- The draw State.reset takes: zero throughout, the draw of 95_test_vectors.md §0.
DESIGN CHOICE, unsafe: log entry 1. -/
def ResetDraw.zero : ResetDraw := ⟨0, 0, 0, 0, 0, 0, 0, 0, 0, 0, 0, 0, 0⟩

/-- What `power_on(machine_variant)` selects (R601): `P_STORES`, `P_INITIAL_MAP`, the vectors of
`P_CHAIN` in link order, `P_PC_HISTORY_DEPTH` and the parameters of R7. -/
structure Platform where
  stores       : List Store
  map          : List PageSource
  vectors      : List Byte
  historyDepth : Nat
  params       : Params
  deriving DecidableEq, Repr

/-- The platform of State.reset: every page unmapped (the default of R7), one store of 65,536 bytes
with nothing listed, no chain node, the default parameters. DESIGN CHOICE, unsafe: log entries 4 to 7. -/
def Platform.default : Platform where
  stores       := [⟨65536, []⟩]
  map          := List.replicate Config.nPages .unmapped
  vectors      := []
  historyDepth := Config.historyDepth
  params       := .default

/-- `reset()` (R600): the CPU registers and latches of R60 and the chain's REQ and IUS bits; memory
stores, page map, history and vectors stay. It leaves a recorded fault (R530). -/
def State.resetWith (draw : ResetDraw) (s : State) : State :=
  { s with
    af := draw.af, bc := draw.bc, de := draw.de, hl := draw.hl, wz := draw.wz
    af' := draw.af', bc' := draw.bc', de' := draw.de', hl' := draw.hl', wz' := draw.wz'
    ix := draw.ix, iy := draw.iy, sp := draw.sp
    pc := 0x0000, i := 0x00, r := 0x00, im := .im0, iff1 := false, iff2 := false
    halted := false, inv := false, eiShadow := false
    bus := { s.bus with
      chain := s.bus.chain.map (fun n => { n with req := false, ius := false })
      intPending := false }
    faulted := none }

/-- `power_on(v)` (R601): the platform's stores, map and chain, a zero-filled history ring with
HIDX = 0, and then `reset()`. -/
def State.powerOnWith (p : Platform) (draw : ResetDraw) : State :=
  State.resetWith draw
    { af := 0, bc := 0, de := 0, hl := 0, wz := 0
      af' := 0, bc' := 0, de' := 0, hl' := 0, wz' := 0
      ix := 0, iy := 0, sp := 0, pc := 0, i := 0, r := 0, im := .im0
      iff1 := false, iff2 := false, halted := false, inv := false, eiShadow := false
      hist := List.replicate p.historyDepth 0x0000, hidx := 0
      bus :=
        { stores := p.stores, map := p.map
          chain := p.vectors.map (fun v => ⟨false, false, v⟩), intPending := false }
      params := p.params, cycles := 0, ioLog := [], ioCount := 0, ioScript := []
      power := .on, faulted := none }

/-- The machine right after reset (R60, R600, R601): `power_on` of the default platform with the zero
draw. -/
def State.reset : State := State.powerOnWith .default .zero

end Sys2Proof.Machine
end

