-- ==== Sys2Proof/Machine/Ops.lean ====
section
/-! DEFINITION. The named operations over registers, memory, stack, ports, the daisy chain and the
interrupt machinery (10_state.md, 20_memory.md, 60_exceptions.md): every read or write of state that
more than one instruction makes goes through one of these. -/

namespace Sys2Proof.Machine

/-! ## Registers (R30, R31, R34) -/

namespace State

/-- A, the high half of AF. -/
def a (s : State) : Byte := hi s.af

/-- F as a byte, the low half of AF. -/
def f (s : State) : Byte := lo s.af

/-- F as eight flags (R40). -/
def flags (s : State) : Flags := Flags.ofByte s.f

/-- `x[A] <- v`. -/
def setA (v : Byte) (s : State) : State := { s with af := withHi s.af v }

/-- `F <- f`. -/
def setFlags (f : Flags) (s : State) : State := { s with af := withLo s.af f.toByte }

/-- `(x[A], F) <- v`. -/
def setAF (v : Byte × Flags) (s : State) : State := { s with af := pair v.1 v.2.toByte }

/-- The byte of an 8-bit register (R30, R31). -/
def reg8 (r : Reg8) (s : State) : Byte :=
  match r with
  | .b => hi s.bc
  | .c => lo s.bc
  | .d => hi s.de
  | .e => lo s.de
  | .h => hi s.hl
  | .l => lo s.hl
  | .a => hi s.af

/-- A write of an 8-bit register: the other half of its pair stays (R31). -/
def setReg8 (r : Reg8) (v : Byte) (s : State) : State :=
  match r with
  | .b => { s with bc := withHi s.bc v }
  | .c => { s with bc := withLo s.bc v }
  | .d => { s with de := withHi s.de v }
  | .e => { s with de := withLo s.de v }
  | .h => { s with hl := withHi s.hl v }
  | .l => { s with hl := withLo s.hl v }
  | .a => { s with af := withHi s.af v }

/-- The value of a pair of the dd / ss field (R124). -/
def pairSS (p : PairSS) (s : State) : Word :=
  match p with
  | .bc => s.bc
  | .de => s.de
  | .hl => s.hl
  | .sp => s.sp

/-- A write of a pair of the dd / ss field. -/
def setPairSS (p : PairSS) (v : Word) (s : State) : State :=
  match p with
  | .bc => { s with bc := v }
  | .de => { s with de := v }
  | .hl => { s with hl := v }
  | .sp => { s with sp := v }

/-- The value of a pair of the qq field (R124). -/
def pairQQ (p : PairQQ) (s : State) : Word :=
  match p with
  | .bc => s.bc
  | .de => s.de
  | .hl => s.hl
  | .af => s.af

/-- A write of a pair of the qq field; for AF it writes all eight bits of F (R242). -/
def setPairQQ (p : PairQQ) (v : Word) (s : State) : State :=
  match p with
  | .bc => { s with bc := v }
  | .de => { s with de := v }
  | .hl => { s with hl := v }
  | .af => { s with af := v }

/-- The value of an index register (R34). -/
def idx (x : Idx) (s : State) : Word :=
  match x with
  | .ix => s.ix
  | .iy => s.iy

/-- A write of an index register. -/
def setIdx (x : Idx) (v : Word) (s : State) : State :=
  match x with
  | .ix => { s with ix := v }
  | .iy => { s with iy := v }

/-- The value of a pair of the pp / rr field (R124): value 2 is the index register itself (R363). -/
def pairPP (x : Idx) (p : PairPP) (s : State) : Word :=
  match p with
  | .bc => s.bc
  | .de => s.de
  | .self => s.idx x
  | .sp => s.sp

/-- XYH or XYL (R34). -/
def half (x : Idx) (k : Half) (s : State) : Byte :=
  match k with
  | .high => hi (s.idx x)
  | .low => lo (s.idx x)

/-- A write of XYH or XYL; the other half stays (R219). -/
def setHalf (x : Idx) (k : Half) (v : Byte) (s : State) : State :=
  match k with
  | .high => s.setIdx x (withHi (s.idx x) v)
  | .low => s.setIdx x (withLo (s.idx x) v)

/-- `x[WZ] <- v` (R33). -/
def setWZ (v : Word) (s : State) : State := { s with wz := v }

/-- `pc <- v`. -/
def setPC (v : Word) (s : State) : State := { s with pc := v }

/-- `cycles <- n` (R11, R620). -/
def setCycles (n : Nat) (s : State) : State := { s with cycles := n }

end State

/-- `x[R] <- x[R][7] : trunc_7(x[R][6:0] + 1)` (R38): bit 7 stays. -/
def incR (r : Byte) : Byte := (r &&& 0x80) ||| ((r + 1) &&& 0x7F)

/-! ## Memory (R80 to R97) -/

/-- The byte at index k of a store's listed cells. -/
def cellsRead (cells : List Host.Cell) (k : Nat) : Byte :=
  match cells with
  | [] => Config.storeFill
  | (a, v) :: t => if a = k then v else cellsRead t k

/-- The cells with index k set to v, in the canonical form: indexes rising, no cell equal to
`Config.storeFill`. -/
def cellsWrite (cells : List Host.Cell) (k : Nat) (v : Byte) : List Host.Cell :=
  match cells with
  | [] => if v = Config.storeFill then [] else [(k, v)]
  | (a, b) :: t =>
    if k < a then (if v = Config.storeFill then (a, b) :: t else (k, v) :: (a, b) :: t)
    else if a = k then (if v = Config.storeFill then t else (k, v) :: t)
    else (a, b) :: cellsWrite t k v

/-- Whether cells are in the canonical form and below index `bound`: each index at least `from`. -/
def cellsWf (bound : Nat) (low : Nat) (cells : List Host.Cell) : Bool :=
  match cells with
  | [] => true
  | (a, v) :: t => decide (low ≤ a) && decide (a < bound) && v != Config.storeFill && cellsWf bound (a + 1) t

/-- A store whose cells are canonical and inside its size. -/
def Store.wf (st : Store) : Bool := cellsWf st.size 0 st.cells

/-- The byte at index k of store n; what no store holds reads as the fill of R83 (log entry 13). -/
def storesRead (stores : List Store) (n k : Nat) : Byte :=
  match stores[n]? with
  | some st => if k < st.size then cellsRead st.cells k else Config.unmappedFill
  | none => Config.unmappedFill

/-- `store[k] <- v` of store n; what no store holds is dropped (log entry 13). -/
def storesWrite (stores : List Store) (n k : Nat) (v : Byte) : List Store :=
  match stores[n]? with
  | some st => if k < st.size then stores.set n { st with cells := cellsWrite st.cells k v } else stores
  | none => stores

/-- `page(a)` of R81. -/
def pageOf (a : Word) : Nat := a.toNat / Config.pageSize

/-- `offset(a)` of R81. -/
def offsetOf (a : Word) : Nat := a.toNat % Config.pageSize

/-- Where an address leads through the page map (R82): a store, an index in it, the read-only flag. -/
structure Location where
  store    : Nat
  index    : Nat
  readonly : Bool
  deriving DecidableEq, Repr

namespace Bus

/-- `MAP[p]` (R82). -/
def pageSource (b : Bus) (p : Nat) : PageSource := (b.map[p]?).getD .unmapped

/-- The store byte an address leads to, or nothing on an unmapped page. -/
def locate (b : Bus) (a : Word) : Option Location :=
  match b.pageSource (pageOf a) with
  | .unmapped => none
  | .mapped store base readonly => some ⟨store, base + offsetOf a, readonly⟩

/-- `read8(a)` (R83). -/
def read8 (b : Bus) (a : Word) : Byte :=
  match b.locate a with
  | none => Config.unmappedFill
  | some l => storesRead b.stores l.store l.index

/-- `write8(a, v)` (R84): dropped on an unmapped or read-only page. -/
def write8 (b : Bus) (a : Word) (v : Byte) : Bus :=
  match b.locate a with
  | none => b
  | some l => if l.readonly then b else { b with stores := storesWrite b.stores l.store l.index v }

/-- Whether a descriptor leads inside a store for `count` pages (the second precondition of R85). -/
def sourceFits (b : Bus) (count : Nat) (source : PageSource) : Bool :=
  match source with
  | .unmapped => true
  | .mapped store base _ =>
    match b.stores[store]? with
    | some st => decide (base + count * Config.pageSize ≤ st.size)
    | none => false

/-- The descriptor of the i-th page of a remapped range (R85): the base advances by a page. -/
def sourceAt (source : PageSource) (i : Nat) : PageSource :=
  match source with
  | .unmapped => .unmapped
  | .mapped store base readonly => .mapped store (base + i * Config.pageSize) readonly

/-- The page map with pages first .. first + count - 1 repointed (R85); `p` is the number of the
list's first page. -/
def repoint (first count : Nat) (source : PageSource) (p : Nat) (map : List PageSource) :
    List PageSource :=
  match map with
  | [] => []
  | m :: t =>
    (if first ≤ p ∧ p < first + count then sourceAt source (p - first) else m) ::
      repoint first count source (p + 1) t

/-- `remap(first, count, source)` (R85), or nothing where a precondition is broken. -/
def remap (first count : Nat) (source : PageSource) (b : Bus) : Option Bus :=
  if first + count ≤ Config.nPages ∧ b.sourceFits count source then
    some { b with map := repoint first count source 0 b.map }
  else none

/-- Whether every page of the map leads inside a store, the map has its 64 pages, and every store is
canonical. -/
def wf (b : Bus) : Bool :=
  b.map.length == Config.nPages && b.map.all (b.sourceFits 1) && b.stores.all Store.wf

end Bus

namespace State

/-- `read8(a)` (R83). -/
def read8 (s : State) (a : Word) : Byte := s.bus.read8 a

/-- `write8(a, v)` (R84). -/
def write8 (a : Word) (v : Byte) (s : State) : State := { s with bus := s.bus.write8 a v }

/-- `MemRead(a, 2)` (R90): little-endian, the high byte at a + 1 mod 2^16. -/
def read16 (s : State) (a : Word) : Word := pair (s.read8 (a + 1)) (s.read8 a)

/-- `MemWrite(a, 2, v)` (R91): the low byte at a, then the high byte at a + 1. -/
def write16 (a v : Word) (s : State) : State := (s.write8 a (lo v)).write8 (a + 1) (hi v)

/-- `Push16(v)` (R95): the high byte at SP - 1, then the low byte at SP - 2. -/
def push16 (v : Word) (s : State) : State :=
  let s1 := { s with sp := s.sp - 1 }
  let s2 := s1.write8 s1.sp (hi v)
  let s3 := { s2 with sp := s2.sp - 1 }
  s3.write8 s3.sp (lo v)

/-- The word `Pop16()` returns (R96). -/
def popValue (s : State) : Word := pair (s.read8 (s.sp + 1)) (s.read8 s.sp)

/-- The state `Pop16()` leaves (R96): SP + 2. -/
def popState (s : State) : State := { s with sp := s.sp + 1 + 1 }

end State

/-! ## The daisy chain (R500 to R506) -/

/-- `IEI(k)` (R502): no node nearer the CPU is under service. -/
def chainIei (chain : List Node) (k : Nat) : Bool := (chain.take k).all (fun n => !n.ius)

/-- `REQ[k] <- 1` (R501). -/
def chainSetReq (chain : List Node) (k : Nat) : List Node :=
  match chain[k]? with
  | some n => chain.set k { n with req := true }
  | none => chain

/-- `ChainAck()` (R503): the vector of the first requesting node above any node under service, and
the chain with that node under service; nothing is "no request". -/
def chainAck (chain : List Node) : Option (Byte × List Node) :=
  match chain with
  | [] => none
  | n :: t =>
    if n.ius then none
    else if n.req then some (n.vec, { n with req := false, ius := true } :: t)
    else (chainAck t).map (fun p => (p.1, n :: p.2))

/-- `ChainDecline()` (R504): every node whose IEI is true retracts its request. -/
def chainDecline (chain : List Node) : List Node :=
  match chain with
  | [] => []
  | n :: t => { n with req := false } :: (if n.ius then t else chainDecline t)

/-- The first half of `ChainReti()` (R505): the node of least k under service leaves it. -/
def chainRelease (chain : List Node) : List Node :=
  match chain with
  | [] => []
  | n :: t => if n.ius then { n with ius := false } :: t else n :: chainRelease t

/-- The test of `Repropagate()` (R506): some node has REQ and IEI. -/
def chainWaiting (chain : List Node) : Bool :=
  match chain with
  | [] => false
  | n :: t => n.req || (!n.ius && chainWaiting t)

namespace Bus

/-- `ChainRequest(k)` (R501), or nothing where no node k exists (R660). -/
def chainRequest (k : Nat) (b : Bus) : Option Bus :=
  if k < b.chain.length then
    some { b with
      chain := chainSetReq b.chain k
      intPending := b.intPending || chainIei b.chain k }
  else none

/-- `ChainReti()` with `Repropagate()` (R505, R506). -/
def chainReti (b : Bus) : Bus :=
  { b with
    chain := chainRelease b.chain
    intPending := b.intPending || chainWaiting (chainRelease b.chain) }

/-- What one action of a port handler does; an action that breaks its precondition is refused, that
is, does nothing (R85, R660; log entry 3). -/
def handle (b : Bus) (act : HandlerAction) : Bus :=
  match act with
  | .remap first count source => (b.remap first count source).getD b
  | .chainRequest k => (b.chainRequest k).getD b

end Bus

/-! ## The I/O space (R100, R101) -/

namespace State

/-- The answer to the next port access: the first of the script, or else the free value of this
access (log entries 2, 3 and 11). -/
def nextReply (s : State) : HandlerReply :=
  match s.ioScript with
  | rep :: _ => rep
  | [] => ⟨Config.portRead s.ioCount, Config.handlerActions s.ioCount⟩

/-- The state after a port access recorded as `ev`: the handler's actions are done. -/
def ioAccess (ev : IoEvent) (s : State) : State :=
  { s with
    ioLog := ev :: s.ioLog
    ioCount := s.ioCount + 1
    ioScript := s.ioScript.tail
    bus := s.nextReply.actions.foldl Bus.handle s.bus }

/-- The byte `IoRead` returns (R100). -/
def ioReadValue (s : State) : Byte := s.nextReply.value

/-- The state after `IoRead(port)` (R100). -/
def ioRead (port : Word) (s : State) : State := s.ioAccess (.read port s.ioReadValue)

/-- `IoWrite(port, v)` (R101). -/
def ioWrite (port : Word) (v : Byte) (s : State) : State := s.ioAccess (.write port v)

end State

/-! ## Taking an interrupt, and the returns (R510 to R513, R432, R433) -/

/-- `VectorTarget(v)` (R511), for the memory of state s. -/
def vectorTarget (v : Byte) (s : State) : Word :=
  let addr := pair s.i (v &&& 0xFE)
  match s.params.im2Dispatch with
  | .direct => addr
  | .table => s.read16 addr

/-- Taking an interrupt whose node answered v (the last lines of R510, R513): the saved pc goes on the
stack, HALTED and both enables are cleared, R counts the acknowledge cycle, pc and WZ are the vector
target, and the step costs `P_INT_ACK_CYCLES` more. -/
def takeInterrupt (v : Byte) (s : State) : State :=
  let s1 := { s with iff1 := false, iff2 := false, halted := false, r := incR s.r }
  let s2 := s1.push16 s1.pc
  let target := vectorTarget v s2
  { s2 with pc := target, wz := target, cycles := s2.cycles + Config.intAckCycles }

/-- `pc <- Pop16(); x[WZ] <- pc`, the return of RET, RETI and RETN (R430, R432, R433). -/
def returnFrom (s : State) : State := { s.popState with pc := s.popValue, wz := s.popValue }

/-- The return from an interrupt handler (R432): IFF2 into IFF1, and the chain is notified. -/
def returnFromInterrupt (s : State) : State :=
  let s1 := returnFrom s
  { s1 with iff1 := s1.iff2, bus := s1.bus.chainReti }

/-- RETN's return (R433): IFF2 into IFF1, the chain is not notified. -/
def returnFromNmi (s : State) : State :=
  let s1 := returnFrom s
  { s1 with iff1 := s1.iff2 }

/-! ## The instruction boundary (R510, R512, R531) -/

/-- Whether `Boundary()` reaches acceptance with IM not 2 (R531), so that the step faults. -/
def boundaryFaults (s : State) : Bool :=
  !s.eiShadow && (s.iff1 && s.iff2) && (s.im != .im2) && s.bus.intPending

/-- What `Boundary()` does where it does not fault (R510, R512): the EI shadow, then the pending
flag, then the enables, then the acknowledge traversal. -/
def boundaryEffect (s : State) : State :=
  if s.eiShadow then { s with eiShadow := false }
  else if !s.bus.intPending then s
  else if !(s.iff1 && s.iff2) then
    { s with bus := { s.bus with intPending := false, chain := chainDecline s.bus.chain } }
  else
    match chainAck s.bus.chain with
    | none => { s with bus := { s.bus with intPending := false } }
    | some (v, chain) =>
      takeInterrupt v { s with bus := { s.bus with intPending := false, chain := chain } }

/-- `Boundary()` (R510) of a step that began at `start`. -/
def boundary (start : Word) (s : State) : Result :=
  if boundaryFaults s then .fault (.unsupportedInterruptMode start) else .next (boundaryEffect s)

/-! ## History, the halted idle, the invalid opcode (R550, R540, R520) -/

/-- `HistWrite(pc)` (R550). -/
def histWrite (s : State) : State :=
  { s with hist := s.hist.set s.hidx s.pc, hidx := (s.hidx + 1) % s.hist.length }

/-- `HaltedIdle()` (R540). -/
def haltedIdle (s : State) : State := { s with r := incR s.r, cycles := 4 }

/-- `Invalid()` (R520), for a state at the instruction's start: the two M1 fetches have counted in R
(D16), pc stays at the start. -/
def invalidOpcode (s : State) : State :=
  { s with inv := true, r := incR (incR s.r), cycles := Config.invalidCycles }

end Sys2Proof.Machine
end

