-- ==== Sys2Proof/Machine/Operands.lean ====
section
/-! DEFINITION. The operand forms (30_encoding.md R125, 43_alu8.md R302, 46_rotate_shift.md R385) and the
condition codes (48_jump_call_return.md R420). -/

namespace Sys2Proof.Machine

/-- `EA = trunc_16(x[XY] + sext_8(d))` (R125). -/
def effAddr (x : Idx) (d : Byte) (s : State) : Word := s.idx x + sext8 d

/-- `x[WZ] <- EA`, the side effect of an (XY+d) operand (R203, R302, R385). -/
def latchEA (x : Idx) (d : Byte) (s : State) : State := { s with wz := effAddr x d s }

/-- The register a plain name of R218 stands for. -/
def PlainReg.toReg8 (r : PlainReg) : Reg8 :=
  match r with
  | .b => .b
  | .c => .c
  | .d => .d
  | .e => .e
  | .a => .a

/-- The target of a relative jump with displacement e, pc already past the instruction (R125). -/
def relTarget (e : Byte) (s : State) : Word := s.pc + sext8 e

/-- The address of the first byte of an instruction of `len` bytes, pc already past it (R36). -/
def instrStart (len : Nat) (s : State) : Word := s.pc - BitVec.ofNat 16 len

/-- The tests of R420 on F. -/
def condHolds (cc : Cond) (s : State) : Bool :=
  match cc with
  | .nz => !s.flags.z
  | .z => s.flags.z
  | .nc => !s.flags.c
  | .c => s.flags.c
  | .po => !s.flags.pv
  | .pe => s.flags.pv
  | .p => !s.flags.s
  | .m => s.flags.s

/-- The conditions of JR cc,e as conditions of R420: cc 0 to 3. -/
def JrCond.toCond (cc : JrCond) : Cond :=
  match cc with
  | .nz => .nz
  | .z => .z
  | .nc => .nc
  | .c => .c

end Sys2Proof.Machine
end

