-- ==== Sys2Proof/Machine/Alu16.lean ====
section
/-! DEFINITION. The meanings of 45_alu16.md of the 16-bit arithmetic (R359 to R367). Each meaning runs after
the instruction's bytes have been fetched: pc is past them and R has counted them (R12, R36). -/

namespace Sys2Proof.Machine

/-! ## Shared operations -/

/-- `ADD HL,ss` (R360). -/
def addHlPair (p : PairSS) (s : State) : State :=
  let rf := add16 s.hl (s.pairSS p) s.flags
  ({ s with wz := s.hl + 1, hl := rf.1 }.setFlags rf.2).setCycles 11

/-- `ADC HL,ss` (R361). -/
def adcHlPair (p : PairSS) (s : State) : State :=
  let rf := adc16 s.hl (s.pairSS p) s.flags.c
  ({ s with wz := s.hl + 1, hl := rf.1 }.setFlags rf.2).setCycles 15

/-- `SBC HL,ss` (R362). -/
def sbcHlPair (p : PairSS) (s : State) : State :=
  let rf := sbc16 s.hl (s.pairSS p) s.flags.c
  ({ s with wz := s.hl + 1, hl := rf.1 }.setFlags rf.2).setCycles 15

/-- `ADD XY,pp` (R363). -/
def addIdxPair (x : Idx) (p : PairPP) (s : State) : State :=
  let rf := add16 (s.idx x) (s.pairPP x p) s.flags
  (((s.setWZ (s.idx x + 1)).setIdx x rf.1).setFlags rf.2).setCycles 15

/-- `INC ss` (R364). -/
def incPair (p : PairSS) (s : State) : State := (s.setPairSS p (s.pairSS p + 1)).setCycles 6

/-- `INC XY` (R365). -/
def incIdx16 (x : Idx) (s : State) : State := (s.setIdx x (s.idx x + 1)).setCycles 10

/-- `DEC ss` (R366). -/
def decPair (p : PairSS) (s : State) : State := (s.setPairSS p (s.pairSS p - 1)).setCycles 6

/-- `DEC XY` (R367). -/
def decIdx16 (x : Idx) (s : State) : State := (s.setIdx x (s.idx x - 1)).setCycles 10

/-! ## One meaning per row of the opcode table -/

-- `INC ss` (R364).

def execInc_BC (s : State) : Result := .next (incPair .bc s)
def execInc_DE (s : State) : Result := .next (incPair .de s)
def execInc_HL (s : State) : Result := .next (incPair .hl s)
def execInc_SP (s : State) : Result := .next (incPair .sp s)

-- `ADD HL,ss` (R360).

def execAdd_HL_BC (s : State) : Result := .next (addHlPair .bc s)
def execAdd_HL_DE (s : State) : Result := .next (addHlPair .de s)
def execAdd_HL_HL (s : State) : Result := .next (addHlPair .hl s)
def execAdd_HL_SP (s : State) : Result := .next (addHlPair .sp s)

-- `DEC ss` (R366).

def execDec_BC (s : State) : Result := .next (decPair .bc s)
def execDec_DE (s : State) : Result := .next (decPair .de s)
def execDec_HL (s : State) : Result := .next (decPair .hl s)
def execDec_SP (s : State) : Result := .next (decPair .sp s)

-- `SBC HL,ss` (R362).

def execSbc_HL_BC (s : State) : Result := .next (sbcHlPair .bc s)
def execSbc_HL_DE (s : State) : Result := .next (sbcHlPair .de s)
def execSbc_HL_HL (s : State) : Result := .next (sbcHlPair .hl s)
def execSbc_HL_SP (s : State) : Result := .next (sbcHlPair .sp s)

-- `ADC HL,ss` (R361).

def execAdc_HL_BC (s : State) : Result := .next (adcHlPair .bc s)
def execAdc_HL_DE (s : State) : Result := .next (adcHlPair .de s)
def execAdc_HL_HL (s : State) : Result := .next (adcHlPair .hl s)
def execAdc_HL_SP (s : State) : Result := .next (adcHlPair .sp s)

-- `ADD XY,pp` (R363).

def execAdd_IX_BC (s : State) : Result := .next (addIdxPair .ix .bc s)
def execAdd_IX_DE (s : State) : Result := .next (addIdxPair .ix .de s)
def execAdd_IX_IX (s : State) : Result := .next (addIdxPair .ix .self s)
def execAdd_IX_SP (s : State) : Result := .next (addIdxPair .ix .sp s)
def execAdd_IY_BC (s : State) : Result := .next (addIdxPair .iy .bc s)
def execAdd_IY_DE (s : State) : Result := .next (addIdxPair .iy .de s)
def execAdd_IY_IY (s : State) : Result := .next (addIdxPair .iy .self s)
def execAdd_IY_SP (s : State) : Result := .next (addIdxPair .iy .sp s)

-- `INC XY` (R365).

def execInc_IX (s : State) : Result := .next (incIdx16 .ix s)
def execInc_IY (s : State) : Result := .next (incIdx16 .iy s)

-- `DEC XY` (R367).

def execDec_IX (s : State) : Result := .next (decIdx16 .ix s)
def execDec_IY (s : State) : Result := .next (decIdx16 .iy s)

end Sys2Proof.Machine
end

