-- ==== Sys2Proof/Machine/Alu8.lean ====
section
/-! DEFINITION. The meanings of 43_alu8.md of the 8-bit arithmetic and logic (R302 to R325). Each meaning runs after
the instruction's bytes have been fetched: pc is past them and R has counted them (R12, R36). -/

namespace Sys2Proof.Machine

/-! ## Shared operations -/

/-- CP's flags (R317): those of Sub8, with Y and X from the operand v where `P_CP_XY_SOURCE` says so. -/
def cpFlags (v : Byte) (s : State) : Flags :=
  let f := (sub8 s.a v false).2
  match s.params.cpXySource with
  | .result => f
  | .operand => { f with y := v.getLsbD 5, x := v.getLsbD 3 }

/-- The eight accumulator operations on an operand value v (R310 to R317). -/
def aluApply (op : AluOp) (v : Byte) (s : State) : State :=
  match op with
  | .add => s.setAF (add8 s.a v false)
  | .adc => s.setAF (add8 s.a v s.flags.c)
  | .sub => s.setAF (sub8 s.a v false)
  | .sbc => s.setAF (sub8 s.a v s.flags.c)
  | .and => s.setAF (s.a &&& v, flogic (s.a &&& v) true)
  | .xor => s.setAF (s.a ^^^ v, flogic (s.a ^^^ v) false)
  | .or => s.setAF (s.a ||| v, flogic (s.a ||| v) false)
  | .cp => s.setFlags (cpFlags v s)

/-- An accumulator operation on a register (R302). -/
def aluReg (op : AluOp) (r : Reg8) (s : State) : State := (aluApply op (s.reg8 r) s).setCycles 4

/-- An accumulator operation on n (R302). -/
def aluImm (op : AluOp) (n : Byte) (s : State) : State := (aluApply op n s).setCycles 7

/-- An accumulator operation on (HL) (R302). -/
def aluMem (op : AluOp) (s : State) : State := (aluApply op (s.read8 s.hl) s).setCycles 7

/-- An accumulator operation on (XY+d) (R302). -/
def aluIdx (op : AluOp) (x : Idx) (d : Byte) (s : State) : State :=
  (aluApply op (s.read8 (effAddr x d s)) (latchEA x d s)).setCycles 19

/-- An accumulator operation on an index half (R302). -/
def aluHalf (op : AluOp) (x : Idx) (k : Half) (s : State) : State :=
  (aluApply op (s.half x k) s).setCycles 8

/-- `INC r` (R318). -/
def incReg (r : Reg8) (s : State) : State :=
  ((s.setReg8 r (inc8 (s.reg8 r) s.flags).1).setFlags (inc8 (s.reg8 r) s.flags).2).setCycles 4

/-- `DEC r` (R321). -/
def decReg (r : Reg8) (s : State) : State :=
  ((s.setReg8 r (dec8 (s.reg8 r) s.flags).1).setFlags (dec8 (s.reg8 r) s.flags).2).setCycles 4

/-- The read-modify-write of INC on the byte at `a` (R319). -/
def incAt (a : Word) (s : State) : State :=
  (s.write8 a (inc8 (s.read8 a) s.flags).1).setFlags (inc8 (s.read8 a) s.flags).2

/-- The read-modify-write of DEC on the byte at `a` (R322). -/
def decAt (a : Word) (s : State) : State :=
  (s.write8 a (dec8 (s.read8 a) s.flags).1).setFlags (dec8 (s.read8 a) s.flags).2

/-- `INC (XY+d)` (R320). -/
def incIdx (x : Idx) (d : Byte) (s : State) : State :=
  (incAt (effAddr x d s) (latchEA x d s)).setCycles 23

/-- `DEC (XY+d)` (R323). -/
def decIdx (x : Idx) (d : Byte) (s : State) : State :=
  (decAt (effAddr x d s) (latchEA x d s)).setCycles 23

/-- `INC rx` (R324). -/
def incHalf (x : Idx) (k : Half) (s : State) : State :=
  ((s.setHalf x k (inc8 (s.half x k) s.flags).1).setFlags (inc8 (s.half x k) s.flags).2).setCycles 8

/-- `DEC rx` (R325). -/
def decHalf (x : Idx) (k : Half) (s : State) : State :=
  ((s.setHalf x k (dec8 (s.half x k) s.flags).1).setFlags (dec8 (s.half x k) s.flags).2).setCycles 8

/-! ## One meaning per row of the opcode table -/

/-- `INC (HL)` (R319). -/
def execInc_mHL (s : State) : Result := .next ((incAt s.hl s).setCycles 11)

/-- `DEC (HL)` (R322). -/
def execDec_mHL (s : State) : Result := .next ((decAt s.hl s).setCycles 11)

-- `INC r` (R318).

def execInc_B (s : State) : Result := .next (incReg .b s)
def execInc_C (s : State) : Result := .next (incReg .c s)
def execInc_D (s : State) : Result := .next (incReg .d s)
def execInc_E (s : State) : Result := .next (incReg .e s)
def execInc_H (s : State) : Result := .next (incReg .h s)
def execInc_L (s : State) : Result := .next (incReg .l s)
def execInc_A (s : State) : Result := .next (incReg .a s)

-- `DEC r` (R321).

def execDec_B (s : State) : Result := .next (decReg .b s)
def execDec_C (s : State) : Result := .next (decReg .c s)
def execDec_D (s : State) : Result := .next (decReg .d s)
def execDec_E (s : State) : Result := .next (decReg .e s)
def execDec_H (s : State) : Result := .next (decReg .h s)
def execDec_L (s : State) : Result := .next (decReg .l s)
def execDec_A (s : State) : Result := .next (decReg .a s)

-- The accumulator operations on a register (R302).

def execAdd_A_B (s : State) : Result := .next (aluReg .add .b s)
def execAdd_A_C (s : State) : Result := .next (aluReg .add .c s)
def execAdd_A_D (s : State) : Result := .next (aluReg .add .d s)
def execAdd_A_E (s : State) : Result := .next (aluReg .add .e s)
def execAdd_A_H (s : State) : Result := .next (aluReg .add .h s)
def execAdd_A_L (s : State) : Result := .next (aluReg .add .l s)
def execAdd_A_A (s : State) : Result := .next (aluReg .add .a s)
def execAdc_A_B (s : State) : Result := .next (aluReg .adc .b s)
def execAdc_A_C (s : State) : Result := .next (aluReg .adc .c s)
def execAdc_A_D (s : State) : Result := .next (aluReg .adc .d s)
def execAdc_A_E (s : State) : Result := .next (aluReg .adc .e s)
def execAdc_A_H (s : State) : Result := .next (aluReg .adc .h s)
def execAdc_A_L (s : State) : Result := .next (aluReg .adc .l s)
def execAdc_A_A (s : State) : Result := .next (aluReg .adc .a s)
def execSub_B (s : State) : Result := .next (aluReg .sub .b s)
def execSub_C (s : State) : Result := .next (aluReg .sub .c s)
def execSub_D (s : State) : Result := .next (aluReg .sub .d s)
def execSub_E (s : State) : Result := .next (aluReg .sub .e s)
def execSub_H (s : State) : Result := .next (aluReg .sub .h s)
def execSub_L (s : State) : Result := .next (aluReg .sub .l s)
def execSub_A (s : State) : Result := .next (aluReg .sub .a s)
def execSbc_A_B (s : State) : Result := .next (aluReg .sbc .b s)
def execSbc_A_C (s : State) : Result := .next (aluReg .sbc .c s)
def execSbc_A_D (s : State) : Result := .next (aluReg .sbc .d s)
def execSbc_A_E (s : State) : Result := .next (aluReg .sbc .e s)
def execSbc_A_H (s : State) : Result := .next (aluReg .sbc .h s)
def execSbc_A_L (s : State) : Result := .next (aluReg .sbc .l s)
def execSbc_A_A (s : State) : Result := .next (aluReg .sbc .a s)
def execAnd_B (s : State) : Result := .next (aluReg .and .b s)
def execAnd_C (s : State) : Result := .next (aluReg .and .c s)
def execAnd_D (s : State) : Result := .next (aluReg .and .d s)
def execAnd_E (s : State) : Result := .next (aluReg .and .e s)
def execAnd_H (s : State) : Result := .next (aluReg .and .h s)
def execAnd_L (s : State) : Result := .next (aluReg .and .l s)
def execAnd_A (s : State) : Result := .next (aluReg .and .a s)
def execXor_B (s : State) : Result := .next (aluReg .xor .b s)
def execXor_C (s : State) : Result := .next (aluReg .xor .c s)
def execXor_D (s : State) : Result := .next (aluReg .xor .d s)
def execXor_E (s : State) : Result := .next (aluReg .xor .e s)
def execXor_H (s : State) : Result := .next (aluReg .xor .h s)
def execXor_L (s : State) : Result := .next (aluReg .xor .l s)
def execXor_A (s : State) : Result := .next (aluReg .xor .a s)
def execOr_B (s : State) : Result := .next (aluReg .or .b s)
def execOr_C (s : State) : Result := .next (aluReg .or .c s)
def execOr_D (s : State) : Result := .next (aluReg .or .d s)
def execOr_E (s : State) : Result := .next (aluReg .or .e s)
def execOr_H (s : State) : Result := .next (aluReg .or .h s)
def execOr_L (s : State) : Result := .next (aluReg .or .l s)
def execOr_A (s : State) : Result := .next (aluReg .or .a s)
def execCp_B (s : State) : Result := .next (aluReg .cp .b s)
def execCp_C (s : State) : Result := .next (aluReg .cp .c s)
def execCp_D (s : State) : Result := .next (aluReg .cp .d s)
def execCp_E (s : State) : Result := .next (aluReg .cp .e s)
def execCp_H (s : State) : Result := .next (aluReg .cp .h s)
def execCp_L (s : State) : Result := .next (aluReg .cp .l s)
def execCp_A (s : State) : Result := .next (aluReg .cp .a s)

-- The accumulator operations on (HL) (R302).

def execAdd_A_mHL (s : State) : Result := .next (aluMem .add s)
def execAdc_A_mHL (s : State) : Result := .next (aluMem .adc s)
def execSub_mHL (s : State) : Result := .next (aluMem .sub s)
def execSbc_A_mHL (s : State) : Result := .next (aluMem .sbc s)
def execAnd_mHL (s : State) : Result := .next (aluMem .and s)
def execXor_mHL (s : State) : Result := .next (aluMem .xor s)
def execOr_mHL (s : State) : Result := .next (aluMem .or s)
def execCp_mHL (s : State) : Result := .next (aluMem .cp s)

-- The accumulator operations on n (R302).

def execAdd_A_n (n : Byte) (s : State) : Result := .next (aluImm .add n s)
def execAdc_A_n (n : Byte) (s : State) : Result := .next (aluImm .adc n s)
def execSub_n (n : Byte) (s : State) : Result := .next (aluImm .sub n s)
def execSbc_A_n (n : Byte) (s : State) : Result := .next (aluImm .sbc n s)
def execAnd_n (n : Byte) (s : State) : Result := .next (aluImm .and n s)
def execXor_n (n : Byte) (s : State) : Result := .next (aluImm .xor n s)
def execOr_n (n : Byte) (s : State) : Result := .next (aluImm .or n s)
def execCp_n (n : Byte) (s : State) : Result := .next (aluImm .cp n s)

-- `INC rx` (R324).

def execInc_IXH (s : State) : Result := .next (incHalf .ix .high s)
def execInc_IXL (s : State) : Result := .next (incHalf .ix .low s)
def execInc_IYH (s : State) : Result := .next (incHalf .iy .high s)
def execInc_IYL (s : State) : Result := .next (incHalf .iy .low s)

-- `DEC rx` (R325).

def execDec_IXH (s : State) : Result := .next (decHalf .ix .high s)
def execDec_IXL (s : State) : Result := .next (decHalf .ix .low s)
def execDec_IYH (s : State) : Result := .next (decHalf .iy .high s)
def execDec_IYL (s : State) : Result := .next (decHalf .iy .low s)

-- `INC (XY+d)` (R320).

def execInc_mIXd (d : Byte) (s : State) : Result := .next (incIdx .ix d s)
def execInc_mIYd (d : Byte) (s : State) : Result := .next (incIdx .iy d s)

-- `DEC (XY+d)` (R323).

def execDec_mIXd (d : Byte) (s : State) : Result := .next (decIdx .ix d s)
def execDec_mIYd (d : Byte) (s : State) : Result := .next (decIdx .iy d s)

-- The accumulator operations on an index half (R302).

def execAdd_A_IXH (s : State) : Result := .next (aluHalf .add .ix .high s)
def execAdd_A_IXL (s : State) : Result := .next (aluHalf .add .ix .low s)
def execAdc_A_IXH (s : State) : Result := .next (aluHalf .adc .ix .high s)
def execAdc_A_IXL (s : State) : Result := .next (aluHalf .adc .ix .low s)
def execSub_IXH (s : State) : Result := .next (aluHalf .sub .ix .high s)
def execSub_IXL (s : State) : Result := .next (aluHalf .sub .ix .low s)
def execSbc_A_IXH (s : State) : Result := .next (aluHalf .sbc .ix .high s)
def execSbc_A_IXL (s : State) : Result := .next (aluHalf .sbc .ix .low s)
def execAnd_IXH (s : State) : Result := .next (aluHalf .and .ix .high s)
def execAnd_IXL (s : State) : Result := .next (aluHalf .and .ix .low s)
def execXor_IXH (s : State) : Result := .next (aluHalf .xor .ix .high s)
def execXor_IXL (s : State) : Result := .next (aluHalf .xor .ix .low s)
def execOr_IXH (s : State) : Result := .next (aluHalf .or .ix .high s)
def execOr_IXL (s : State) : Result := .next (aluHalf .or .ix .low s)
def execCp_IXH (s : State) : Result := .next (aluHalf .cp .ix .high s)
def execCp_IXL (s : State) : Result := .next (aluHalf .cp .ix .low s)
def execAdd_A_IYH (s : State) : Result := .next (aluHalf .add .iy .high s)
def execAdd_A_IYL (s : State) : Result := .next (aluHalf .add .iy .low s)
def execAdc_A_IYH (s : State) : Result := .next (aluHalf .adc .iy .high s)
def execAdc_A_IYL (s : State) : Result := .next (aluHalf .adc .iy .low s)
def execSub_IYH (s : State) : Result := .next (aluHalf .sub .iy .high s)
def execSub_IYL (s : State) : Result := .next (aluHalf .sub .iy .low s)
def execSbc_A_IYH (s : State) : Result := .next (aluHalf .sbc .iy .high s)
def execSbc_A_IYL (s : State) : Result := .next (aluHalf .sbc .iy .low s)
def execAnd_IYH (s : State) : Result := .next (aluHalf .and .iy .high s)
def execAnd_IYL (s : State) : Result := .next (aluHalf .and .iy .low s)
def execXor_IYH (s : State) : Result := .next (aluHalf .xor .iy .high s)
def execXor_IYL (s : State) : Result := .next (aluHalf .xor .iy .low s)
def execOr_IYH (s : State) : Result := .next (aluHalf .or .iy .high s)
def execOr_IYL (s : State) : Result := .next (aluHalf .or .iy .low s)
def execCp_IYH (s : State) : Result := .next (aluHalf .cp .iy .high s)
def execCp_IYL (s : State) : Result := .next (aluHalf .cp .iy .low s)

-- The accumulator operations on (XY+d) (R302).

def execAdd_A_mIXd (d : Byte) (s : State) : Result := .next (aluIdx .add .ix d s)
def execAdc_A_mIXd (d : Byte) (s : State) : Result := .next (aluIdx .adc .ix d s)
def execSub_mIXd (d : Byte) (s : State) : Result := .next (aluIdx .sub .ix d s)
def execSbc_A_mIXd (d : Byte) (s : State) : Result := .next (aluIdx .sbc .ix d s)
def execAnd_mIXd (d : Byte) (s : State) : Result := .next (aluIdx .and .ix d s)
def execXor_mIXd (d : Byte) (s : State) : Result := .next (aluIdx .xor .ix d s)
def execOr_mIXd (d : Byte) (s : State) : Result := .next (aluIdx .or .ix d s)
def execCp_mIXd (d : Byte) (s : State) : Result := .next (aluIdx .cp .ix d s)
def execAdd_A_mIYd (d : Byte) (s : State) : Result := .next (aluIdx .add .iy d s)
def execAdc_A_mIYd (d : Byte) (s : State) : Result := .next (aluIdx .adc .iy d s)
def execSub_mIYd (d : Byte) (s : State) : Result := .next (aluIdx .sub .iy d s)
def execSbc_A_mIYd (d : Byte) (s : State) : Result := .next (aluIdx .sbc .iy d s)
def execAnd_mIYd (d : Byte) (s : State) : Result := .next (aluIdx .and .iy d s)
def execXor_mIYd (d : Byte) (s : State) : Result := .next (aluIdx .xor .iy d s)
def execOr_mIYd (d : Byte) (s : State) : Result := .next (aluIdx .or .iy d s)
def execCp_mIYd (d : Byte) (s : State) : Result := .next (aluIdx .cp .iy d s)

end Sys2Proof.Machine
end

