-- ==== Sys2Proof/WellFormed.lean ====
section
/-! DEFINITION. Which bytes are an instruction (30_encoding.md R120, R129, R130, R132, R133), said from
the spec's own lists and apart from the decoder. An operand field of `Instr` has exactly the width its
format gives it, so every term of `Instr` is well formed; what can be ill formed is a byte sequence. -/

namespace Sys2Proof

/-- `ED_VALID` (R129): the 58 second bytes of the ED layer. -/
def edValid : List Byte :=
  [
    0x40, 0x41, 0x42, 0x43, 0x44, 0x45, 0x46, 0x47, 0x48, 0x49, 0x4A, 0x4B,
    0x4D, 0x4F, 0x50, 0x51, 0x52, 0x53, 0x56, 0x57, 0x58, 0x59, 0x5A, 0x5B,
    0x5E, 0x5F, 0x60, 0x61, 0x62, 0x63, 0x67, 0x68, 0x69, 0x6A, 0x6B, 0x6F,
    0x72, 0x73, 0x78, 0x79, 0x7A, 0x7B, 0xA0, 0xA1, 0xA2, 0xA3, 0xA8, 0xA9,
    0xAA, 0xAB, 0xB0, 0xB1, 0xB2, 0xB3, 0xB8, 0xB9, 0xBA, 0xBB]

/-- `XY_VALID` (R130): the 86 second bytes of the DD and FD layer. -/
def xyValid : List Byte :=
  [
    0x09, 0x19, 0x21, 0x22, 0x23, 0x24, 0x25, 0x26, 0x29, 0x2A, 0x2B, 0x2C,
    0x2D, 0x2E, 0x34, 0x35, 0x36, 0x39, 0x44, 0x45, 0x46, 0x4C, 0x4D, 0x4E,
    0x54, 0x55, 0x56, 0x5C, 0x5D, 0x5E, 0x60, 0x61, 0x62, 0x63, 0x64, 0x65,
    0x66, 0x67, 0x68, 0x69, 0x6A, 0x6B, 0x6C, 0x6D, 0x6E, 0x6F, 0x70, 0x71,
    0x72, 0x73, 0x74, 0x75, 0x77, 0x7C, 0x7D, 0x7E, 0x84, 0x85, 0x86, 0x8C,
    0x8D, 0x8E, 0x94, 0x95, 0x96, 0x9C, 0x9D, 0x9E, 0xA4, 0xA5, 0xA6, 0xAC,
    0xAD, 0xAE, 0xB4, 0xB5, 0xB6, 0xBC, 0xBD, 0xBE, 0xCB, 0xE1, 0xE3, 0xE5,
    0xE9, 0xF9]

/-- Whether the first two bytes are a known pattern (R132): no unprefixed byte and no CB form is
invalid. -/
def knownPattern (o1 o2 : Byte) : Bool :=
  if o1 = 0xED then edValid.contains o2
  else if o1 = 0xDD || o1 = 0xFD then xyValid.contains o2
  else true

/-- The unprefixed opcodes with one byte after them, n or e (formats F-OP-N and F-OP-E of R120). -/
def oneByteOperand : List Byte :=
  [0x06, 0x0E, 0x16, 0x1E, 0x26, 0x2E, 0x36, 0x3E, 0xC6, 0xCE, 0xD6, 0xDE, 0xE6, 0xEE, 0xF6, 0xFE,
    0x10, 0x18, 0x20, 0x28, 0x30, 0x38, 0xD3, 0xDB]

/-- The unprefixed opcodes with two bytes after them (format F-OP-NN of R120). -/
def twoByteOperand : List Byte :=
  [0x01, 0x11, 0x21, 0x31, 0x22, 0x2A, 0x32, 0x3A, 0xC3, 0xCD,
    0xC2, 0xCA, 0xD2, 0xDA, 0xE2, 0xEA, 0xF2, 0xFA,
    0xC4, 0xCC, 0xD4, 0xDC, 0xE4, 0xEC, 0xF4, 0xFC]

/-- The second bytes of the DD and FD layer whose operand is (XY+d) (R130). -/
def hasDisplacement : List Byte :=
  [0x34, 0x35, 0x36, 0x46, 0x4E, 0x56, 0x5E, 0x66, 0x6E, 0x7E, 0x70, 0x71, 0x72, 0x73, 0x74, 0x75,
    0x77, 0x86, 0x8E, 0x96, 0x9E, 0xA6, 0xAE, 0xB6, 0xBE]

/-- The length in bytes the first two bytes give a valid instruction (R133). -/
def encodedLength (o1 o2 : Byte) : Nat :=
  if o1 = 0xCB then 2
  else if o1 = 0xED then
    if [0x43, 0x4B, 0x53, 0x5B, 0x63, 0x6B, 0x73, 0x7B].contains o2 then 4 else 2
  else if o1 = 0xDD || o1 = 0xFD then
    if o2 = 0xCB || o2 = 0x36 || o2 = 0x21 || o2 = 0x22 || o2 = 0x2A then 4
    else if hasDisplacement.contains o2 || o2 = 0x26 || o2 = 0x2E then 3
    else 2
  else if oneByteOperand.contains o1 then 2
  else if twoByteOperand.contains o1 then 3
  else 1

/-- Whether the bytes begin with a whole valid instruction: a first byte, a known pattern, and as many
bytes as its length. -/
def wellFormedBytes (bytes : List Byte) : Bool :=
  match bytes with
  | [] => false
  | o1 :: t =>
    knownPattern o1 (t.headD 0x00) && decide (encodedLength o1 (t.headD 0x00) ≤ bytes.length)

end Sys2Proof
end

