-- ==== Sys2Proof/Decode.lean ====
section
/-! DEFINITION. From bytes to an instruction (30_encoding.md R120 to R135), the encoder, and the reading
of one opcode-table word. The decoder follows the fields x, y, z, p, q of R121 and the layers of R126
to R130 and R135; the encoder lists the bytes of each row; that the two agree is proved elsewhere. -/

namespace Sys2Proof

-- The compiler's run-time representation has no room for this many constructors with operands (log
-- entry 23): what builds them has no compiled code. Lean's kernel evaluates it all the same.
noncomputable section

/-! ## Instructions from their operand fields

Each of these names the constructors of one group of rows by the group's operands. -/

namespace Instr

/-- `LD r,n` (R201). -/
def ldRegImm (r : Reg8) (n : Byte) : Instr :=
  match r with
  | .b => .ld_B_n n
  | .c => .ld_C_n n
  | .d => .ld_D_n n
  | .e => .ld_E_n n
  | .h => .ld_H_n n
  | .l => .ld_L_n n
  | .a => .ld_A_n n

/-- `LD r,r'` (R200). -/
def ldRegReg (dst : Reg8) (r : Reg8) : Instr :=
  match dst, r with
  | .b, .b => .ld_B_B
  | .b, .c => .ld_B_C
  | .b, .d => .ld_B_D
  | .b, .e => .ld_B_E
  | .b, .h => .ld_B_H
  | .b, .l => .ld_B_L
  | .b, .a => .ld_B_A
  | .c, .b => .ld_C_B
  | .c, .c => .ld_C_C
  | .c, .d => .ld_C_D
  | .c, .e => .ld_C_E
  | .c, .h => .ld_C_H
  | .c, .l => .ld_C_L
  | .c, .a => .ld_C_A
  | .d, .b => .ld_D_B
  | .d, .c => .ld_D_C
  | .d, .d => .ld_D_D
  | .d, .e => .ld_D_E
  | .d, .h => .ld_D_H
  | .d, .l => .ld_D_L
  | .d, .a => .ld_D_A
  | .e, .b => .ld_E_B
  | .e, .c => .ld_E_C
  | .e, .d => .ld_E_D
  | .e, .e => .ld_E_E
  | .e, .h => .ld_E_H
  | .e, .l => .ld_E_L
  | .e, .a => .ld_E_A
  | .h, .b => .ld_H_B
  | .h, .c => .ld_H_C
  | .h, .d => .ld_H_D
  | .h, .e => .ld_H_E
  | .h, .h => .ld_H_H
  | .h, .l => .ld_H_L
  | .h, .a => .ld_H_A
  | .l, .b => .ld_L_B
  | .l, .c => .ld_L_C
  | .l, .d => .ld_L_D
  | .l, .e => .ld_L_E
  | .l, .h => .ld_L_H
  | .l, .l => .ld_L_L
  | .l, .a => .ld_L_A
  | .a, .b => .ld_A_B
  | .a, .c => .ld_A_C
  | .a, .d => .ld_A_D
  | .a, .e => .ld_A_E
  | .a, .h => .ld_A_H
  | .a, .l => .ld_A_L
  | .a, .a => .ld_A_A

/-- `LD r,(HL)` (R202). -/
def ldRegMem (r : Reg8) : Instr :=
  match r with
  | .b => .ld_B_mHL
  | .c => .ld_C_mHL
  | .d => .ld_D_mHL
  | .e => .ld_E_mHL
  | .h => .ld_H_mHL
  | .l => .ld_L_mHL
  | .a => .ld_A_mHL

/-- `LD (HL),r` (R204). -/
def ldMemReg (r : Reg8) : Instr :=
  match r with
  | .b => .ld_mHL_B
  | .c => .ld_mHL_C
  | .d => .ld_mHL_D
  | .e => .ld_mHL_E
  | .h => .ld_mHL_H
  | .l => .ld_mHL_L
  | .a => .ld_mHL_A

/-- `LD rx,n` (R219). -/
def ldHalfImm (x : Idx) (k : Half) (n : Byte) : Instr :=
  match x, k with
  | .ix, .high => .ld_IXH_n n
  | .ix, .low => .ld_IXL_n n
  | .iy, .high => .ld_IYH_n n
  | .iy, .low => .ld_IYL_n n

/-- `LD (XY+d),n` (R207). -/
def ldIdxImm (x : Idx) (d : Byte) (n : Byte) : Instr :=
  match x with
  | .ix => .ld_mIXd_n d n
  | .iy => .ld_mIYd_n d n

/-- `LD rx,rx'` from an index half (R218). -/
def ldRegHalf (r : PlainReg) (x : Idx) (k : Half) : Instr :=
  match r, x, k with
  | .b, .ix, .high => .ld_B_IXH
  | .b, .ix, .low => .ld_B_IXL
  | .c, .ix, .high => .ld_C_IXH
  | .c, .ix, .low => .ld_C_IXL
  | .d, .ix, .high => .ld_D_IXH
  | .d, .ix, .low => .ld_D_IXL
  | .e, .ix, .high => .ld_E_IXH
  | .e, .ix, .low => .ld_E_IXL
  | .a, .ix, .high => .ld_A_IXH
  | .a, .ix, .low => .ld_A_IXL
  | .b, .iy, .high => .ld_B_IYH
  | .b, .iy, .low => .ld_B_IYL
  | .c, .iy, .high => .ld_C_IYH
  | .c, .iy, .low => .ld_C_IYL
  | .d, .iy, .high => .ld_D_IYH
  | .d, .iy, .low => .ld_D_IYL
  | .e, .iy, .high => .ld_E_IYH
  | .e, .iy, .low => .ld_E_IYL
  | .a, .iy, .high => .ld_A_IYH
  | .a, .iy, .low => .ld_A_IYL

/-- `LD r,(XY+d)` (R203). -/
def ldRegIdx (r : Reg8) (x : Idx) (d : Byte) : Instr :=
  match r, x with
  | .b, .ix => .ld_B_mIXd d
  | .c, .ix => .ld_C_mIXd d
  | .d, .ix => .ld_D_mIXd d
  | .e, .ix => .ld_E_mIXd d
  | .h, .ix => .ld_H_mIXd d
  | .l, .ix => .ld_L_mIXd d
  | .a, .ix => .ld_A_mIXd d
  | .b, .iy => .ld_B_mIYd d
  | .c, .iy => .ld_C_mIYd d
  | .d, .iy => .ld_D_mIYd d
  | .e, .iy => .ld_E_mIYd d
  | .h, .iy => .ld_H_mIYd d
  | .l, .iy => .ld_L_mIYd d
  | .a, .iy => .ld_A_mIYd d

/-- `LD rx,rx'` into an index half (R218). -/
def ldHalfReg (x : Idx) (k : Half) (r : PlainReg) : Instr :=
  match x, k, r with
  | .ix, .high, .b => .ld_IXH_B
  | .ix, .high, .c => .ld_IXH_C
  | .ix, .high, .d => .ld_IXH_D
  | .ix, .high, .e => .ld_IXH_E
  | .ix, .high, .a => .ld_IXH_A
  | .ix, .low, .b => .ld_IXL_B
  | .ix, .low, .c => .ld_IXL_C
  | .ix, .low, .d => .ld_IXL_D
  | .ix, .low, .e => .ld_IXL_E
  | .ix, .low, .a => .ld_IXL_A
  | .iy, .high, .b => .ld_IYH_B
  | .iy, .high, .c => .ld_IYH_C
  | .iy, .high, .d => .ld_IYH_D
  | .iy, .high, .e => .ld_IYH_E
  | .iy, .high, .a => .ld_IYH_A
  | .iy, .low, .b => .ld_IYL_B
  | .iy, .low, .c => .ld_IYL_C
  | .iy, .low, .d => .ld_IYL_D
  | .iy, .low, .e => .ld_IYL_E
  | .iy, .low, .a => .ld_IYL_A

/-- `LD rx,rx'` with both operands index halves (R218). -/
def ldHalfHalf (x : Idx) (k : Half) (k' : Half) : Instr :=
  match x, k, k' with
  | .ix, .high, .high => .ld_IXH_IXH
  | .ix, .high, .low => .ld_IXH_IXL
  | .ix, .low, .high => .ld_IXL_IXH
  | .ix, .low, .low => .ld_IXL_IXL
  | .iy, .high, .high => .ld_IYH_IYH
  | .iy, .high, .low => .ld_IYH_IYL
  | .iy, .low, .high => .ld_IYL_IYH
  | .iy, .low, .low => .ld_IYL_IYL

/-- `LD (XY+d),r` (R205). -/
def ldIdxReg (x : Idx) (r : Reg8) (d : Byte) : Instr :=
  match x, r with
  | .ix, .b => .ld_mIXd_B d
  | .ix, .c => .ld_mIXd_C d
  | .ix, .d => .ld_mIXd_D d
  | .ix, .e => .ld_mIXd_E d
  | .ix, .h => .ld_mIXd_H d
  | .ix, .l => .ld_mIXd_L d
  | .ix, .a => .ld_mIXd_A d
  | .iy, .b => .ld_mIYd_B d
  | .iy, .c => .ld_mIYd_C d
  | .iy, .d => .ld_mIYd_D d
  | .iy, .e => .ld_mIYd_E d
  | .iy, .h => .ld_mIYd_H d
  | .iy, .l => .ld_mIYd_L d
  | .iy, .a => .ld_mIYd_A d

/-- `LD dd,nn` (R230). -/
def ldPairImm (p : PairSS) (nn : Word) : Instr :=
  match p with
  | .bc => .ld_BC_nn nn
  | .de => .ld_DE_nn nn
  | .hl => .ld_HL_nn nn
  | .sp => .ld_SP_nn nn

/-- `POP qq` (R242). -/
def popPair (p : PairQQ) : Instr :=
  match p with
  | .bc => .pop_BC
  | .de => .pop_DE
  | .hl => .pop_HL
  | .af => .pop_AF

/-- `PUSH qq` (R240). -/
def pushPair (p : PairQQ) : Instr :=
  match p with
  | .bc => .push_BC
  | .de => .push_DE
  | .hl => .push_HL
  | .af => .push_AF

/-- `LD (nn),dd`, the ED form (R236). -/
def ldMemPair (p : PairSS) (nn : Word) : Instr :=
  match p with
  | .bc => .ld_mnn_BC nn
  | .de => .ld_mnn_DE nn
  | .hl => .ld_mnn_HL_ed nn
  | .sp => .ld_mnn_SP nn

/-- `LD dd,(nn)`, the ED form (R233). -/
def ldPairMem (p : PairSS) (nn : Word) : Instr :=
  match p with
  | .bc => .ld_BC_mnn nn
  | .de => .ld_DE_mnn nn
  | .hl => .ld_HL_mnn_ed nn
  | .sp => .ld_SP_mnn nn

/-- `LD XY,nn` (R231). -/
def ldIdxImm16 (x : Idx) (nn : Word) : Instr :=
  match x with
  | .ix => .ld_IX_nn nn
  | .iy => .ld_IY_nn nn

/-- `LD (nn),XY` (R237). -/
def ldMemIdx (x : Idx) (nn : Word) : Instr :=
  match x with
  | .ix => .ld_mnn_IX nn
  | .iy => .ld_mnn_IY nn

/-- `LD XY,(nn)` (R234). -/
def ldIdxMem (x : Idx) (nn : Word) : Instr :=
  match x with
  | .ix => .ld_IX_mnn nn
  | .iy => .ld_IY_mnn nn

/-- `POP XY` (R243). -/
def popIdx (x : Idx) : Instr :=
  match x with
  | .ix => .pop_IX
  | .iy => .pop_IY

/-- `PUSH XY` (R241). -/
def pushIdx (x : Idx) : Instr :=
  match x with
  | .ix => .push_IX
  | .iy => .push_IY

/-- `LD SP,XY` (R239). -/
def ldSpIdx (x : Idx) : Instr :=
  match x with
  | .ix => .ld_SP_IX
  | .iy => .ld_SP_IY

/-- `EX (SP),XY` (R264). -/
def exSpIdx (x : Idx) : Instr :=
  match x with
  | .ix => .ex_mSP_IX
  | .iy => .ex_mSP_IY

/-- `INC r` (R318). -/
def incReg (r : Reg8) : Instr :=
  match r with
  | .b => .inc_B
  | .c => .inc_C
  | .d => .inc_D
  | .e => .inc_E
  | .h => .inc_H
  | .l => .inc_L
  | .a => .inc_A

/-- `DEC r` (R321). -/
def decReg (r : Reg8) : Instr :=
  match r with
  | .b => .dec_B
  | .c => .dec_C
  | .d => .dec_D
  | .e => .dec_E
  | .h => .dec_H
  | .l => .dec_L
  | .a => .dec_A

/-- The accumulator operations on a register (R302). -/
def aluReg (op : AluOp) (r : Reg8) : Instr :=
  match op, r with
  | .add, .b => .add_A_B
  | .add, .c => .add_A_C
  | .add, .d => .add_A_D
  | .add, .e => .add_A_E
  | .add, .h => .add_A_H
  | .add, .l => .add_A_L
  | .add, .a => .add_A_A
  | .adc, .b => .adc_A_B
  | .adc, .c => .adc_A_C
  | .adc, .d => .adc_A_D
  | .adc, .e => .adc_A_E
  | .adc, .h => .adc_A_H
  | .adc, .l => .adc_A_L
  | .adc, .a => .adc_A_A
  | .sub, .b => .sub_B
  | .sub, .c => .sub_C
  | .sub, .d => .sub_D
  | .sub, .e => .sub_E
  | .sub, .h => .sub_H
  | .sub, .l => .sub_L
  | .sub, .a => .sub_A
  | .sbc, .b => .sbc_A_B
  | .sbc, .c => .sbc_A_C
  | .sbc, .d => .sbc_A_D
  | .sbc, .e => .sbc_A_E
  | .sbc, .h => .sbc_A_H
  | .sbc, .l => .sbc_A_L
  | .sbc, .a => .sbc_A_A
  | .and, .b => .and_B
  | .and, .c => .and_C
  | .and, .d => .and_D
  | .and, .e => .and_E
  | .and, .h => .and_H
  | .and, .l => .and_L
  | .and, .a => .and_A
  | .xor, .b => .xor_B
  | .xor, .c => .xor_C
  | .xor, .d => .xor_D
  | .xor, .e => .xor_E
  | .xor, .h => .xor_H
  | .xor, .l => .xor_L
  | .xor, .a => .xor_A
  | .or, .b => .or_B
  | .or, .c => .or_C
  | .or, .d => .or_D
  | .or, .e => .or_E
  | .or, .h => .or_H
  | .or, .l => .or_L
  | .or, .a => .or_A
  | .cp, .b => .cp_B
  | .cp, .c => .cp_C
  | .cp, .d => .cp_D
  | .cp, .e => .cp_E
  | .cp, .h => .cp_H
  | .cp, .l => .cp_L
  | .cp, .a => .cp_A

/-- The accumulator operations on (HL) (R302). -/
def aluMem (op : AluOp) : Instr :=
  match op with
  | .add => .add_A_mHL
  | .adc => .adc_A_mHL
  | .sub => .sub_mHL
  | .sbc => .sbc_A_mHL
  | .and => .and_mHL
  | .xor => .xor_mHL
  | .or => .or_mHL
  | .cp => .cp_mHL

/-- The accumulator operations on n (R302). -/
def aluImm (op : AluOp) (n : Byte) : Instr :=
  match op with
  | .add => .add_A_n n
  | .adc => .adc_A_n n
  | .sub => .sub_n n
  | .sbc => .sbc_A_n n
  | .and => .and_n n
  | .xor => .xor_n n
  | .or => .or_n n
  | .cp => .cp_n n

/-- `INC rx` (R324). -/
def incHalf (x : Idx) (k : Half) : Instr :=
  match x, k with
  | .ix, .high => .inc_IXH
  | .ix, .low => .inc_IXL
  | .iy, .high => .inc_IYH
  | .iy, .low => .inc_IYL

/-- `DEC rx` (R325). -/
def decHalf (x : Idx) (k : Half) : Instr :=
  match x, k with
  | .ix, .high => .dec_IXH
  | .ix, .low => .dec_IXL
  | .iy, .high => .dec_IYH
  | .iy, .low => .dec_IYL

/-- `INC (XY+d)` (R320). -/
def incIdx (x : Idx) (d : Byte) : Instr :=
  match x with
  | .ix => .inc_mIXd d
  | .iy => .inc_mIYd d

/-- `DEC (XY+d)` (R323). -/
def decIdx (x : Idx) (d : Byte) : Instr :=
  match x with
  | .ix => .dec_mIXd d
  | .iy => .dec_mIYd d

/-- The accumulator operations on an index half (R302). -/
def aluHalf (op : AluOp) (x : Idx) (k : Half) : Instr :=
  match op, x, k with
  | .add, .ix, .high => .add_A_IXH
  | .add, .ix, .low => .add_A_IXL
  | .adc, .ix, .high => .adc_A_IXH
  | .adc, .ix, .low => .adc_A_IXL
  | .sub, .ix, .high => .sub_IXH
  | .sub, .ix, .low => .sub_IXL
  | .sbc, .ix, .high => .sbc_A_IXH
  | .sbc, .ix, .low => .sbc_A_IXL
  | .and, .ix, .high => .and_IXH
  | .and, .ix, .low => .and_IXL
  | .xor, .ix, .high => .xor_IXH
  | .xor, .ix, .low => .xor_IXL
  | .or, .ix, .high => .or_IXH
  | .or, .ix, .low => .or_IXL
  | .cp, .ix, .high => .cp_IXH
  | .cp, .ix, .low => .cp_IXL
  | .add, .iy, .high => .add_A_IYH
  | .add, .iy, .low => .add_A_IYL
  | .adc, .iy, .high => .adc_A_IYH
  | .adc, .iy, .low => .adc_A_IYL
  | .sub, .iy, .high => .sub_IYH
  | .sub, .iy, .low => .sub_IYL
  | .sbc, .iy, .high => .sbc_A_IYH
  | .sbc, .iy, .low => .sbc_A_IYL
  | .and, .iy, .high => .and_IYH
  | .and, .iy, .low => .and_IYL
  | .xor, .iy, .high => .xor_IYH
  | .xor, .iy, .low => .xor_IYL
  | .or, .iy, .high => .or_IYH
  | .or, .iy, .low => .or_IYL
  | .cp, .iy, .high => .cp_IYH
  | .cp, .iy, .low => .cp_IYL

/-- The accumulator operations on (XY+d) (R302). -/
def aluIdx (op : AluOp) (x : Idx) (d : Byte) : Instr :=
  match op, x with
  | .add, .ix => .add_A_mIXd d
  | .adc, .ix => .adc_A_mIXd d
  | .sub, .ix => .sub_mIXd d
  | .sbc, .ix => .sbc_A_mIXd d
  | .and, .ix => .and_mIXd d
  | .xor, .ix => .xor_mIXd d
  | .or, .ix => .or_mIXd d
  | .cp, .ix => .cp_mIXd d
  | .add, .iy => .add_A_mIYd d
  | .adc, .iy => .adc_A_mIYd d
  | .sub, .iy => .sub_mIYd d
  | .sbc, .iy => .sbc_A_mIYd d
  | .and, .iy => .and_mIYd d
  | .xor, .iy => .xor_mIYd d
  | .or, .iy => .or_mIYd d
  | .cp, .iy => .cp_mIYd d

/-- `INC ss` (R364). -/
def incPair (p : PairSS) : Instr :=
  match p with
  | .bc => .inc_BC
  | .de => .inc_DE
  | .hl => .inc_HL
  | .sp => .inc_SP

/-- `ADD HL,ss` (R360). -/
def addHlPair (p : PairSS) : Instr :=
  match p with
  | .bc => .add_HL_BC
  | .de => .add_HL_DE
  | .hl => .add_HL_HL
  | .sp => .add_HL_SP

/-- `DEC ss` (R366). -/
def decPair (p : PairSS) : Instr :=
  match p with
  | .bc => .dec_BC
  | .de => .dec_DE
  | .hl => .dec_HL
  | .sp => .dec_SP

/-- `SBC HL,ss` (R362). -/
def sbcHlPair (p : PairSS) : Instr :=
  match p with
  | .bc => .sbc_HL_BC
  | .de => .sbc_HL_DE
  | .hl => .sbc_HL_HL
  | .sp => .sbc_HL_SP

/-- `ADC HL,ss` (R361). -/
def adcHlPair (p : PairSS) : Instr :=
  match p with
  | .bc => .adc_HL_BC
  | .de => .adc_HL_DE
  | .hl => .adc_HL_HL
  | .sp => .adc_HL_SP

/-- `ADD XY,pp` (R363). -/
def addIdxPair (x : Idx) (p : PairPP) : Instr :=
  match x, p with
  | .ix, .bc => .add_IX_BC
  | .ix, .de => .add_IX_DE
  | .ix, .self => .add_IX_IX
  | .ix, .sp => .add_IX_SP
  | .iy, .bc => .add_IY_BC
  | .iy, .de => .add_IY_DE
  | .iy, .self => .add_IY_IY
  | .iy, .sp => .add_IY_SP

/-- `INC XY` (R365). -/
def incIdx16 (x : Idx) : Instr :=
  match x with
  | .ix => .inc_IX
  | .iy => .inc_IY

/-- `DEC XY` (R367). -/
def decIdx16 (x : Idx) : Instr :=
  match x with
  | .ix => .dec_IX
  | .iy => .dec_IY

/-- The CB rotates and shifts of a register (R385 to R393). -/
def rotReg (op : RotOp) (r : Reg8) : Instr :=
  match op, r with
  | .rlc, .b => .rlc_B
  | .rlc, .c => .rlc_C
  | .rlc, .d => .rlc_D
  | .rlc, .e => .rlc_E
  | .rlc, .h => .rlc_H
  | .rlc, .l => .rlc_L
  | .rlc, .a => .rlc_A
  | .rrc, .b => .rrc_B
  | .rrc, .c => .rrc_C
  | .rrc, .d => .rrc_D
  | .rrc, .e => .rrc_E
  | .rrc, .h => .rrc_H
  | .rrc, .l => .rrc_L
  | .rrc, .a => .rrc_A
  | .rl, .b => .rl_B
  | .rl, .c => .rl_C
  | .rl, .d => .rl_D
  | .rl, .e => .rl_E
  | .rl, .h => .rl_H
  | .rl, .l => .rl_L
  | .rl, .a => .rl_A
  | .rr, .b => .rr_B
  | .rr, .c => .rr_C
  | .rr, .d => .rr_D
  | .rr, .e => .rr_E
  | .rr, .h => .rr_H
  | .rr, .l => .rr_L
  | .rr, .a => .rr_A
  | .sla, .b => .sla_B
  | .sla, .c => .sla_C
  | .sla, .d => .sla_D
  | .sla, .e => .sla_E
  | .sla, .h => .sla_H
  | .sla, .l => .sla_L
  | .sla, .a => .sla_A
  | .sra, .b => .sra_B
  | .sra, .c => .sra_C
  | .sra, .d => .sra_D
  | .sra, .e => .sra_E
  | .sra, .h => .sra_H
  | .sra, .l => .sra_L
  | .sra, .a => .sra_A
  | .sll, .b => .sll_B
  | .sll, .c => .sll_C
  | .sll, .d => .sll_D
  | .sll, .e => .sll_E
  | .sll, .h => .sll_H
  | .sll, .l => .sll_L
  | .sll, .a => .sll_A
  | .srl, .b => .srl_B
  | .srl, .c => .srl_C
  | .srl, .d => .srl_D
  | .srl, .e => .srl_E
  | .srl, .h => .srl_H
  | .srl, .l => .srl_L
  | .srl, .a => .srl_A

/-- The CB rotates and shifts of (HL) (R385 to R393). -/
def rotMem (op : RotOp) : Instr :=
  match op with
  | .rlc => .rlc_mHL
  | .rrc => .rrc_mHL
  | .rl => .rl_mHL
  | .rr => .rr_mHL
  | .sla => .sla_mHL
  | .sra => .sra_mHL
  | .sll => .sll_mHL
  | .srl => .srl_mHL

/-- The rotates and shifts of (XY+d) with a copy to r (R385 to R393). -/
def rotIdxCopy (op : RotOp) (x : Idx) (r : Reg8) (d : Byte) : Instr :=
  match op, x, r with
  | .rlc, .ix, .b => .rlc_mIXd_B d
  | .rlc, .ix, .c => .rlc_mIXd_C d
  | .rlc, .ix, .d => .rlc_mIXd_D d
  | .rlc, .ix, .e => .rlc_mIXd_E d
  | .rlc, .ix, .h => .rlc_mIXd_H d
  | .rlc, .ix, .l => .rlc_mIXd_L d
  | .rlc, .ix, .a => .rlc_mIXd_A d
  | .rrc, .ix, .b => .rrc_mIXd_B d
  | .rrc, .ix, .c => .rrc_mIXd_C d
  | .rrc, .ix, .d => .rrc_mIXd_D d
  | .rrc, .ix, .e => .rrc_mIXd_E d
  | .rrc, .ix, .h => .rrc_mIXd_H d
  | .rrc, .ix, .l => .rrc_mIXd_L d
  | .rrc, .ix, .a => .rrc_mIXd_A d
  | .rl, .ix, .b => .rl_mIXd_B d
  | .rl, .ix, .c => .rl_mIXd_C d
  | .rl, .ix, .d => .rl_mIXd_D d
  | .rl, .ix, .e => .rl_mIXd_E d
  | .rl, .ix, .h => .rl_mIXd_H d
  | .rl, .ix, .l => .rl_mIXd_L d
  | .rl, .ix, .a => .rl_mIXd_A d
  | .rr, .ix, .b => .rr_mIXd_B d
  | .rr, .ix, .c => .rr_mIXd_C d
  | .rr, .ix, .d => .rr_mIXd_D d
  | .rr, .ix, .e => .rr_mIXd_E d
  | .rr, .ix, .h => .rr_mIXd_H d
  | .rr, .ix, .l => .rr_mIXd_L d
  | .rr, .ix, .a => .rr_mIXd_A d
  | .sla, .ix, .b => .sla_mIXd_B d
  | .sla, .ix, .c => .sla_mIXd_C d
  | .sla, .ix, .d => .sla_mIXd_D d
  | .sla, .ix, .e => .sla_mIXd_E d
  | .sla, .ix, .h => .sla_mIXd_H d
  | .sla, .ix, .l => .sla_mIXd_L d
  | .sla, .ix, .a => .sla_mIXd_A d
  | .sra, .ix, .b => .sra_mIXd_B d
  | .sra, .ix, .c => .sra_mIXd_C d
  | .sra, .ix, .d => .sra_mIXd_D d
  | .sra, .ix, .e => .sra_mIXd_E d
  | .sra, .ix, .h => .sra_mIXd_H d
  | .sra, .ix, .l => .sra_mIXd_L d
  | .sra, .ix, .a => .sra_mIXd_A d
  | .sll, .ix, .b => .sll_mIXd_B d
  | .sll, .ix, .c => .sll_mIXd_C d
  | .sll, .ix, .d => .sll_mIXd_D d
  | .sll, .ix, .e => .sll_mIXd_E d
  | .sll, .ix, .h => .sll_mIXd_H d
  | .sll, .ix, .l => .sll_mIXd_L d
  | .sll, .ix, .a => .sll_mIXd_A d
  | .srl, .ix, .b => .srl_mIXd_B d
  | .srl, .ix, .c => .srl_mIXd_C d
  | .srl, .ix, .d => .srl_mIXd_D d
  | .srl, .ix, .e => .srl_mIXd_E d
  | .srl, .ix, .h => .srl_mIXd_H d
  | .srl, .ix, .l => .srl_mIXd_L d
  | .srl, .ix, .a => .srl_mIXd_A d
  | .rlc, .iy, .b => .rlc_mIYd_B d
  | .rlc, .iy, .c => .rlc_mIYd_C d
  | .rlc, .iy, .d => .rlc_mIYd_D d
  | .rlc, .iy, .e => .rlc_mIYd_E d
  | .rlc, .iy, .h => .rlc_mIYd_H d
  | .rlc, .iy, .l => .rlc_mIYd_L d
  | .rlc, .iy, .a => .rlc_mIYd_A d
  | .rrc, .iy, .b => .rrc_mIYd_B d
  | .rrc, .iy, .c => .rrc_mIYd_C d
  | .rrc, .iy, .d => .rrc_mIYd_D d
  | .rrc, .iy, .e => .rrc_mIYd_E d
  | .rrc, .iy, .h => .rrc_mIYd_H d
  | .rrc, .iy, .l => .rrc_mIYd_L d
  | .rrc, .iy, .a => .rrc_mIYd_A d
  | .rl, .iy, .b => .rl_mIYd_B d
  | .rl, .iy, .c => .rl_mIYd_C d
  | .rl, .iy, .d => .rl_mIYd_D d
  | .rl, .iy, .e => .rl_mIYd_E d
  | .rl, .iy, .h => .rl_mIYd_H d
  | .rl, .iy, .l => .rl_mIYd_L d
  | .rl, .iy, .a => .rl_mIYd_A d
  | .rr, .iy, .b => .rr_mIYd_B d
  | .rr, .iy, .c => .rr_mIYd_C d
  | .rr, .iy, .d => .rr_mIYd_D d
  | .rr, .iy, .e => .rr_mIYd_E d
  | .rr, .iy, .h => .rr_mIYd_H d
  | .rr, .iy, .l => .rr_mIYd_L d
  | .rr, .iy, .a => .rr_mIYd_A d
  | .sla, .iy, .b => .sla_mIYd_B d
  | .sla, .iy, .c => .sla_mIYd_C d
  | .sla, .iy, .d => .sla_mIYd_D d
  | .sla, .iy, .e => .sla_mIYd_E d
  | .sla, .iy, .h => .sla_mIYd_H d
  | .sla, .iy, .l => .sla_mIYd_L d
  | .sla, .iy, .a => .sla_mIYd_A d
  | .sra, .iy, .b => .sra_mIYd_B d
  | .sra, .iy, .c => .sra_mIYd_C d
  | .sra, .iy, .d => .sra_mIYd_D d
  | .sra, .iy, .e => .sra_mIYd_E d
  | .sra, .iy, .h => .sra_mIYd_H d
  | .sra, .iy, .l => .sra_mIYd_L d
  | .sra, .iy, .a => .sra_mIYd_A d
  | .sll, .iy, .b => .sll_mIYd_B d
  | .sll, .iy, .c => .sll_mIYd_C d
  | .sll, .iy, .d => .sll_mIYd_D d
  | .sll, .iy, .e => .sll_mIYd_E d
  | .sll, .iy, .h => .sll_mIYd_H d
  | .sll, .iy, .l => .sll_mIYd_L d
  | .sll, .iy, .a => .sll_mIYd_A d
  | .srl, .iy, .b => .srl_mIYd_B d
  | .srl, .iy, .c => .srl_mIYd_C d
  | .srl, .iy, .d => .srl_mIYd_D d
  | .srl, .iy, .e => .srl_mIYd_E d
  | .srl, .iy, .h => .srl_mIYd_H d
  | .srl, .iy, .l => .srl_mIYd_L d
  | .srl, .iy, .a => .srl_mIYd_A d

/-- The rotates and shifts of (XY+d) (R385 to R393). -/
def rotIdx (op : RotOp) (x : Idx) (d : Byte) : Instr :=
  match op, x with
  | .rlc, .ix => .rlc_mIXd d
  | .rrc, .ix => .rrc_mIXd d
  | .rl, .ix => .rl_mIXd d
  | .rr, .ix => .rr_mIXd d
  | .sla, .ix => .sla_mIXd d
  | .sra, .ix => .sra_mIXd d
  | .sll, .ix => .sll_mIXd d
  | .srl, .ix => .srl_mIXd d
  | .rlc, .iy => .rlc_mIYd d
  | .rrc, .iy => .rrc_mIYd d
  | .rl, .iy => .rl_mIYd d
  | .rr, .iy => .rr_mIYd d
  | .sla, .iy => .sla_mIYd d
  | .sra, .iy => .sra_mIYd d
  | .sll, .iy => .sll_mIYd d
  | .srl, .iy => .srl_mIYd d

/-- `BIT b,r` (R400). -/
def bitReg (b : Field3) (r : Reg8) : Instr :=
  match b, r with
  | .f0, .b => .bit_0_B
  | .f0, .c => .bit_0_C
  | .f0, .d => .bit_0_D
  | .f0, .e => .bit_0_E
  | .f0, .h => .bit_0_H
  | .f0, .l => .bit_0_L
  | .f0, .a => .bit_0_A
  | .f1, .b => .bit_1_B
  | .f1, .c => .bit_1_C
  | .f1, .d => .bit_1_D
  | .f1, .e => .bit_1_E
  | .f1, .h => .bit_1_H
  | .f1, .l => .bit_1_L
  | .f1, .a => .bit_1_A
  | .f2, .b => .bit_2_B
  | .f2, .c => .bit_2_C
  | .f2, .d => .bit_2_D
  | .f2, .e => .bit_2_E
  | .f2, .h => .bit_2_H
  | .f2, .l => .bit_2_L
  | .f2, .a => .bit_2_A
  | .f3, .b => .bit_3_B
  | .f3, .c => .bit_3_C
  | .f3, .d => .bit_3_D
  | .f3, .e => .bit_3_E
  | .f3, .h => .bit_3_H
  | .f3, .l => .bit_3_L
  | .f3, .a => .bit_3_A
  | .f4, .b => .bit_4_B
  | .f4, .c => .bit_4_C
  | .f4, .d => .bit_4_D
  | .f4, .e => .bit_4_E
  | .f4, .h => .bit_4_H
  | .f4, .l => .bit_4_L
  | .f4, .a => .bit_4_A
  | .f5, .b => .bit_5_B
  | .f5, .c => .bit_5_C
  | .f5, .d => .bit_5_D
  | .f5, .e => .bit_5_E
  | .f5, .h => .bit_5_H
  | .f5, .l => .bit_5_L
  | .f5, .a => .bit_5_A
  | .f6, .b => .bit_6_B
  | .f6, .c => .bit_6_C
  | .f6, .d => .bit_6_D
  | .f6, .e => .bit_6_E
  | .f6, .h => .bit_6_H
  | .f6, .l => .bit_6_L
  | .f6, .a => .bit_6_A
  | .f7, .b => .bit_7_B
  | .f7, .c => .bit_7_C
  | .f7, .d => .bit_7_D
  | .f7, .e => .bit_7_E
  | .f7, .h => .bit_7_H
  | .f7, .l => .bit_7_L
  | .f7, .a => .bit_7_A

/-- `BIT b,(HL)` (R401). -/
def bitMem (b : Field3) : Instr :=
  match b with
  | .f0 => .bit_0_mHL
  | .f1 => .bit_1_mHL
  | .f2 => .bit_2_mHL
  | .f3 => .bit_3_mHL
  | .f4 => .bit_4_mHL
  | .f5 => .bit_5_mHL
  | .f6 => .bit_6_mHL
  | .f7 => .bit_7_mHL

/-- `RES b,r` (R404). -/
def resBitReg (b : Field3) (r : Reg8) : Instr :=
  match b, r with
  | .f0, .b => .res_0_B
  | .f0, .c => .res_0_C
  | .f0, .d => .res_0_D
  | .f0, .e => .res_0_E
  | .f0, .h => .res_0_H
  | .f0, .l => .res_0_L
  | .f0, .a => .res_0_A
  | .f1, .b => .res_1_B
  | .f1, .c => .res_1_C
  | .f1, .d => .res_1_D
  | .f1, .e => .res_1_E
  | .f1, .h => .res_1_H
  | .f1, .l => .res_1_L
  | .f1, .a => .res_1_A
  | .f2, .b => .res_2_B
  | .f2, .c => .res_2_C
  | .f2, .d => .res_2_D
  | .f2, .e => .res_2_E
  | .f2, .h => .res_2_H
  | .f2, .l => .res_2_L
  | .f2, .a => .res_2_A
  | .f3, .b => .res_3_B
  | .f3, .c => .res_3_C
  | .f3, .d => .res_3_D
  | .f3, .e => .res_3_E
  | .f3, .h => .res_3_H
  | .f3, .l => .res_3_L
  | .f3, .a => .res_3_A
  | .f4, .b => .res_4_B
  | .f4, .c => .res_4_C
  | .f4, .d => .res_4_D
  | .f4, .e => .res_4_E
  | .f4, .h => .res_4_H
  | .f4, .l => .res_4_L
  | .f4, .a => .res_4_A
  | .f5, .b => .res_5_B
  | .f5, .c => .res_5_C
  | .f5, .d => .res_5_D
  | .f5, .e => .res_5_E
  | .f5, .h => .res_5_H
  | .f5, .l => .res_5_L
  | .f5, .a => .res_5_A
  | .f6, .b => .res_6_B
  | .f6, .c => .res_6_C
  | .f6, .d => .res_6_D
  | .f6, .e => .res_6_E
  | .f6, .h => .res_6_H
  | .f6, .l => .res_6_L
  | .f6, .a => .res_6_A
  | .f7, .b => .res_7_B
  | .f7, .c => .res_7_C
  | .f7, .d => .res_7_D
  | .f7, .e => .res_7_E
  | .f7, .h => .res_7_H
  | .f7, .l => .res_7_L
  | .f7, .a => .res_7_A

/-- `RES b,(HL)` (R404). -/
def resBitMem (b : Field3) : Instr :=
  match b with
  | .f0 => .res_0_mHL
  | .f1 => .res_1_mHL
  | .f2 => .res_2_mHL
  | .f3 => .res_3_mHL
  | .f4 => .res_4_mHL
  | .f5 => .res_5_mHL
  | .f6 => .res_6_mHL
  | .f7 => .res_7_mHL

/-- `SET b,r` (R403). -/
def setBitReg (b : Field3) (r : Reg8) : Instr :=
  match b, r with
  | .f0, .b => .set_0_B
  | .f0, .c => .set_0_C
  | .f0, .d => .set_0_D
  | .f0, .e => .set_0_E
  | .f0, .h => .set_0_H
  | .f0, .l => .set_0_L
  | .f0, .a => .set_0_A
  | .f1, .b => .set_1_B
  | .f1, .c => .set_1_C
  | .f1, .d => .set_1_D
  | .f1, .e => .set_1_E
  | .f1, .h => .set_1_H
  | .f1, .l => .set_1_L
  | .f1, .a => .set_1_A
  | .f2, .b => .set_2_B
  | .f2, .c => .set_2_C
  | .f2, .d => .set_2_D
  | .f2, .e => .set_2_E
  | .f2, .h => .set_2_H
  | .f2, .l => .set_2_L
  | .f2, .a => .set_2_A
  | .f3, .b => .set_3_B
  | .f3, .c => .set_3_C
  | .f3, .d => .set_3_D
  | .f3, .e => .set_3_E
  | .f3, .h => .set_3_H
  | .f3, .l => .set_3_L
  | .f3, .a => .set_3_A
  | .f4, .b => .set_4_B
  | .f4, .c => .set_4_C
  | .f4, .d => .set_4_D
  | .f4, .e => .set_4_E
  | .f4, .h => .set_4_H
  | .f4, .l => .set_4_L
  | .f4, .a => .set_4_A
  | .f5, .b => .set_5_B
  | .f5, .c => .set_5_C
  | .f5, .d => .set_5_D
  | .f5, .e => .set_5_E
  | .f5, .h => .set_5_H
  | .f5, .l => .set_5_L
  | .f5, .a => .set_5_A
  | .f6, .b => .set_6_B
  | .f6, .c => .set_6_C
  | .f6, .d => .set_6_D
  | .f6, .e => .set_6_E
  | .f6, .h => .set_6_H
  | .f6, .l => .set_6_L
  | .f6, .a => .set_6_A
  | .f7, .b => .set_7_B
  | .f7, .c => .set_7_C
  | .f7, .d => .set_7_D
  | .f7, .e => .set_7_E
  | .f7, .h => .set_7_H
  | .f7, .l => .set_7_L
  | .f7, .a => .set_7_A

/-- `SET b,(HL)` (R403). -/
def setBitMem (b : Field3) : Instr :=
  match b with
  | .f0 => .set_0_mHL
  | .f1 => .set_1_mHL
  | .f2 => .set_2_mHL
  | .f3 => .set_3_mHL
  | .f4 => .set_4_mHL
  | .f5 => .set_5_mHL
  | .f6 => .set_6_mHL
  | .f7 => .set_7_mHL

/-- `BIT b,(XY+d)` with the z field of its opcode byte (R402). -/
def bitIdx (b : Field3) (x : Idx) (z : Field3) (d : Byte) : Instr :=
  match b, x, z with
  | .f0, .ix, .f0 => .bit_0_mIXd_z0 d
  | .f0, .ix, .f1 => .bit_0_mIXd_z1 d
  | .f0, .ix, .f2 => .bit_0_mIXd_z2 d
  | .f0, .ix, .f3 => .bit_0_mIXd_z3 d
  | .f0, .ix, .f4 => .bit_0_mIXd_z4 d
  | .f0, .ix, .f5 => .bit_0_mIXd_z5 d
  | .f0, .ix, .f6 => .bit_0_mIXd_z6 d
  | .f0, .ix, .f7 => .bit_0_mIXd_z7 d
  | .f1, .ix, .f0 => .bit_1_mIXd_z0 d
  | .f1, .ix, .f1 => .bit_1_mIXd_z1 d
  | .f1, .ix, .f2 => .bit_1_mIXd_z2 d
  | .f1, .ix, .f3 => .bit_1_mIXd_z3 d
  | .f1, .ix, .f4 => .bit_1_mIXd_z4 d
  | .f1, .ix, .f5 => .bit_1_mIXd_z5 d
  | .f1, .ix, .f6 => .bit_1_mIXd_z6 d
  | .f1, .ix, .f7 => .bit_1_mIXd_z7 d
  | .f2, .ix, .f0 => .bit_2_mIXd_z0 d
  | .f2, .ix, .f1 => .bit_2_mIXd_z1 d
  | .f2, .ix, .f2 => .bit_2_mIXd_z2 d
  | .f2, .ix, .f3 => .bit_2_mIXd_z3 d
  | .f2, .ix, .f4 => .bit_2_mIXd_z4 d
  | .f2, .ix, .f5 => .bit_2_mIXd_z5 d
  | .f2, .ix, .f6 => .bit_2_mIXd_z6 d
  | .f2, .ix, .f7 => .bit_2_mIXd_z7 d
  | .f3, .ix, .f0 => .bit_3_mIXd_z0 d
  | .f3, .ix, .f1 => .bit_3_mIXd_z1 d
  | .f3, .ix, .f2 => .bit_3_mIXd_z2 d
  | .f3, .ix, .f3 => .bit_3_mIXd_z3 d
  | .f3, .ix, .f4 => .bit_3_mIXd_z4 d
  | .f3, .ix, .f5 => .bit_3_mIXd_z5 d
  | .f3, .ix, .f6 => .bit_3_mIXd_z6 d
  | .f3, .ix, .f7 => .bit_3_mIXd_z7 d
  | .f4, .ix, .f0 => .bit_4_mIXd_z0 d
  | .f4, .ix, .f1 => .bit_4_mIXd_z1 d
  | .f4, .ix, .f2 => .bit_4_mIXd_z2 d
  | .f4, .ix, .f3 => .bit_4_mIXd_z3 d
  | .f4, .ix, .f4 => .bit_4_mIXd_z4 d
  | .f4, .ix, .f5 => .bit_4_mIXd_z5 d
  | .f4, .ix, .f6 => .bit_4_mIXd_z6 d
  | .f4, .ix, .f7 => .bit_4_mIXd_z7 d
  | .f5, .ix, .f0 => .bit_5_mIXd_z0 d
  | .f5, .ix, .f1 => .bit_5_mIXd_z1 d
  | .f5, .ix, .f2 => .bit_5_mIXd_z2 d
  | .f5, .ix, .f3 => .bit_5_mIXd_z3 d
  | .f5, .ix, .f4 => .bit_5_mIXd_z4 d
  | .f5, .ix, .f5 => .bit_5_mIXd_z5 d
  | .f5, .ix, .f6 => .bit_5_mIXd_z6 d
  | .f5, .ix, .f7 => .bit_5_mIXd_z7 d
  | .f6, .ix, .f0 => .bit_6_mIXd_z0 d
  | .f6, .ix, .f1 => .bit_6_mIXd_z1 d
  | .f6, .ix, .f2 => .bit_6_mIXd_z2 d
  | .f6, .ix, .f3 => .bit_6_mIXd_z3 d
  | .f6, .ix, .f4 => .bit_6_mIXd_z4 d
  | .f6, .ix, .f5 => .bit_6_mIXd_z5 d
  | .f6, .ix, .f6 => .bit_6_mIXd_z6 d
  | .f6, .ix, .f7 => .bit_6_mIXd_z7 d
  | .f7, .ix, .f0 => .bit_7_mIXd_z0 d
  | .f7, .ix, .f1 => .bit_7_mIXd_z1 d
  | .f7, .ix, .f2 => .bit_7_mIXd_z2 d
  | .f7, .ix, .f3 => .bit_7_mIXd_z3 d
  | .f7, .ix, .f4 => .bit_7_mIXd_z4 d
  | .f7, .ix, .f5 => .bit_7_mIXd_z5 d
  | .f7, .ix, .f6 => .bit_7_mIXd_z6 d
  | .f7, .ix, .f7 => .bit_7_mIXd_z7 d
  | .f0, .iy, .f0 => .bit_0_mIYd_z0 d
  | .f0, .iy, .f1 => .bit_0_mIYd_z1 d
  | .f0, .iy, .f2 => .bit_0_mIYd_z2 d
  | .f0, .iy, .f3 => .bit_0_mIYd_z3 d
  | .f0, .iy, .f4 => .bit_0_mIYd_z4 d
  | .f0, .iy, .f5 => .bit_0_mIYd_z5 d
  | .f0, .iy, .f6 => .bit_0_mIYd_z6 d
  | .f0, .iy, .f7 => .bit_0_mIYd_z7 d
  | .f1, .iy, .f0 => .bit_1_mIYd_z0 d
  | .f1, .iy, .f1 => .bit_1_mIYd_z1 d
  | .f1, .iy, .f2 => .bit_1_mIYd_z2 d
  | .f1, .iy, .f3 => .bit_1_mIYd_z3 d
  | .f1, .iy, .f4 => .bit_1_mIYd_z4 d
  | .f1, .iy, .f5 => .bit_1_mIYd_z5 d
  | .f1, .iy, .f6 => .bit_1_mIYd_z6 d
  | .f1, .iy, .f7 => .bit_1_mIYd_z7 d
  | .f2, .iy, .f0 => .bit_2_mIYd_z0 d
  | .f2, .iy, .f1 => .bit_2_mIYd_z1 d
  | .f2, .iy, .f2 => .bit_2_mIYd_z2 d
  | .f2, .iy, .f3 => .bit_2_mIYd_z3 d
  | .f2, .iy, .f4 => .bit_2_mIYd_z4 d
  | .f2, .iy, .f5 => .bit_2_mIYd_z5 d
  | .f2, .iy, .f6 => .bit_2_mIYd_z6 d
  | .f2, .iy, .f7 => .bit_2_mIYd_z7 d
  | .f3, .iy, .f0 => .bit_3_mIYd_z0 d
  | .f3, .iy, .f1 => .bit_3_mIYd_z1 d
  | .f3, .iy, .f2 => .bit_3_mIYd_z2 d
  | .f3, .iy, .f3 => .bit_3_mIYd_z3 d
  | .f3, .iy, .f4 => .bit_3_mIYd_z4 d
  | .f3, .iy, .f5 => .bit_3_mIYd_z5 d
  | .f3, .iy, .f6 => .bit_3_mIYd_z6 d
  | .f3, .iy, .f7 => .bit_3_mIYd_z7 d
  | .f4, .iy, .f0 => .bit_4_mIYd_z0 d
  | .f4, .iy, .f1 => .bit_4_mIYd_z1 d
  | .f4, .iy, .f2 => .bit_4_mIYd_z2 d
  | .f4, .iy, .f3 => .bit_4_mIYd_z3 d
  | .f4, .iy, .f4 => .bit_4_mIYd_z4 d
  | .f4, .iy, .f5 => .bit_4_mIYd_z5 d
  | .f4, .iy, .f6 => .bit_4_mIYd_z6 d
  | .f4, .iy, .f7 => .bit_4_mIYd_z7 d
  | .f5, .iy, .f0 => .bit_5_mIYd_z0 d
  | .f5, .iy, .f1 => .bit_5_mIYd_z1 d
  | .f5, .iy, .f2 => .bit_5_mIYd_z2 d
  | .f5, .iy, .f3 => .bit_5_mIYd_z3 d
  | .f5, .iy, .f4 => .bit_5_mIYd_z4 d
  | .f5, .iy, .f5 => .bit_5_mIYd_z5 d
  | .f5, .iy, .f6 => .bit_5_mIYd_z6 d
  | .f5, .iy, .f7 => .bit_5_mIYd_z7 d
  | .f6, .iy, .f0 => .bit_6_mIYd_z0 d
  | .f6, .iy, .f1 => .bit_6_mIYd_z1 d
  | .f6, .iy, .f2 => .bit_6_mIYd_z2 d
  | .f6, .iy, .f3 => .bit_6_mIYd_z3 d
  | .f6, .iy, .f4 => .bit_6_mIYd_z4 d
  | .f6, .iy, .f5 => .bit_6_mIYd_z5 d
  | .f6, .iy, .f6 => .bit_6_mIYd_z6 d
  | .f6, .iy, .f7 => .bit_6_mIYd_z7 d
  | .f7, .iy, .f0 => .bit_7_mIYd_z0 d
  | .f7, .iy, .f1 => .bit_7_mIYd_z1 d
  | .f7, .iy, .f2 => .bit_7_mIYd_z2 d
  | .f7, .iy, .f3 => .bit_7_mIYd_z3 d
  | .f7, .iy, .f4 => .bit_7_mIYd_z4 d
  | .f7, .iy, .f5 => .bit_7_mIYd_z5 d
  | .f7, .iy, .f6 => .bit_7_mIYd_z6 d
  | .f7, .iy, .f7 => .bit_7_mIYd_z7 d

/-- `RES b,(XY+d),r` (R404). -/
def resBitIdxCopy (b : Field3) (x : Idx) (r : Reg8) (d : Byte) : Instr :=
  match b, x, r with
  | .f0, .ix, .b => .res_0_mIXd_B d
  | .f0, .ix, .c => .res_0_mIXd_C d
  | .f0, .ix, .d => .res_0_mIXd_D d
  | .f0, .ix, .e => .res_0_mIXd_E d
  | .f0, .ix, .h => .res_0_mIXd_H d
  | .f0, .ix, .l => .res_0_mIXd_L d
  | .f0, .ix, .a => .res_0_mIXd_A d
  | .f1, .ix, .b => .res_1_mIXd_B d
  | .f1, .ix, .c => .res_1_mIXd_C d
  | .f1, .ix, .d => .res_1_mIXd_D d
  | .f1, .ix, .e => .res_1_mIXd_E d
  | .f1, .ix, .h => .res_1_mIXd_H d
  | .f1, .ix, .l => .res_1_mIXd_L d
  | .f1, .ix, .a => .res_1_mIXd_A d
  | .f2, .ix, .b => .res_2_mIXd_B d
  | .f2, .ix, .c => .res_2_mIXd_C d
  | .f2, .ix, .d => .res_2_mIXd_D d
  | .f2, .ix, .e => .res_2_mIXd_E d
  | .f2, .ix, .h => .res_2_mIXd_H d
  | .f2, .ix, .l => .res_2_mIXd_L d
  | .f2, .ix, .a => .res_2_mIXd_A d
  | .f3, .ix, .b => .res_3_mIXd_B d
  | .f3, .ix, .c => .res_3_mIXd_C d
  | .f3, .ix, .d => .res_3_mIXd_D d
  | .f3, .ix, .e => .res_3_mIXd_E d
  | .f3, .ix, .h => .res_3_mIXd_H d
  | .f3, .ix, .l => .res_3_mIXd_L d
  | .f3, .ix, .a => .res_3_mIXd_A d
  | .f4, .ix, .b => .res_4_mIXd_B d
  | .f4, .ix, .c => .res_4_mIXd_C d
  | .f4, .ix, .d => .res_4_mIXd_D d
  | .f4, .ix, .e => .res_4_mIXd_E d
  | .f4, .ix, .h => .res_4_mIXd_H d
  | .f4, .ix, .l => .res_4_mIXd_L d
  | .f4, .ix, .a => .res_4_mIXd_A d
  | .f5, .ix, .b => .res_5_mIXd_B d
  | .f5, .ix, .c => .res_5_mIXd_C d
  | .f5, .ix, .d => .res_5_mIXd_D d
  | .f5, .ix, .e => .res_5_mIXd_E d
  | .f5, .ix, .h => .res_5_mIXd_H d
  | .f5, .ix, .l => .res_5_mIXd_L d
  | .f5, .ix, .a => .res_5_mIXd_A d
  | .f6, .ix, .b => .res_6_mIXd_B d
  | .f6, .ix, .c => .res_6_mIXd_C d
  | .f6, .ix, .d => .res_6_mIXd_D d
  | .f6, .ix, .e => .res_6_mIXd_E d
  | .f6, .ix, .h => .res_6_mIXd_H d
  | .f6, .ix, .l => .res_6_mIXd_L d
  | .f6, .ix, .a => .res_6_mIXd_A d
  | .f7, .ix, .b => .res_7_mIXd_B d
  | .f7, .ix, .c => .res_7_mIXd_C d
  | .f7, .ix, .d => .res_7_mIXd_D d
  | .f7, .ix, .e => .res_7_mIXd_E d
  | .f7, .ix, .h => .res_7_mIXd_H d
  | .f7, .ix, .l => .res_7_mIXd_L d
  | .f7, .ix, .a => .res_7_mIXd_A d
  | .f0, .iy, .b => .res_0_mIYd_B d
  | .f0, .iy, .c => .res_0_mIYd_C d
  | .f0, .iy, .d => .res_0_mIYd_D d
  | .f0, .iy, .e => .res_0_mIYd_E d
  | .f0, .iy, .h => .res_0_mIYd_H d
  | .f0, .iy, .l => .res_0_mIYd_L d
  | .f0, .iy, .a => .res_0_mIYd_A d
  | .f1, .iy, .b => .res_1_mIYd_B d
  | .f1, .iy, .c => .res_1_mIYd_C d
  | .f1, .iy, .d => .res_1_mIYd_D d
  | .f1, .iy, .e => .res_1_mIYd_E d
  | .f1, .iy, .h => .res_1_mIYd_H d
  | .f1, .iy, .l => .res_1_mIYd_L d
  | .f1, .iy, .a => .res_1_mIYd_A d
  | .f2, .iy, .b => .res_2_mIYd_B d
  | .f2, .iy, .c => .res_2_mIYd_C d
  | .f2, .iy, .d => .res_2_mIYd_D d
  | .f2, .iy, .e => .res_2_mIYd_E d
  | .f2, .iy, .h => .res_2_mIYd_H d
  | .f2, .iy, .l => .res_2_mIYd_L d
  | .f2, .iy, .a => .res_2_mIYd_A d
  | .f3, .iy, .b => .res_3_mIYd_B d
  | .f3, .iy, .c => .res_3_mIYd_C d
  | .f3, .iy, .d => .res_3_mIYd_D d
  | .f3, .iy, .e => .res_3_mIYd_E d
  | .f3, .iy, .h => .res_3_mIYd_H d
  | .f3, .iy, .l => .res_3_mIYd_L d
  | .f3, .iy, .a => .res_3_mIYd_A d
  | .f4, .iy, .b => .res_4_mIYd_B d
  | .f4, .iy, .c => .res_4_mIYd_C d
  | .f4, .iy, .d => .res_4_mIYd_D d
  | .f4, .iy, .e => .res_4_mIYd_E d
  | .f4, .iy, .h => .res_4_mIYd_H d
  | .f4, .iy, .l => .res_4_mIYd_L d
  | .f4, .iy, .a => .res_4_mIYd_A d
  | .f5, .iy, .b => .res_5_mIYd_B d
  | .f5, .iy, .c => .res_5_mIYd_C d
  | .f5, .iy, .d => .res_5_mIYd_D d
  | .f5, .iy, .e => .res_5_mIYd_E d
  | .f5, .iy, .h => .res_5_mIYd_H d
  | .f5, .iy, .l => .res_5_mIYd_L d
  | .f5, .iy, .a => .res_5_mIYd_A d
  | .f6, .iy, .b => .res_6_mIYd_B d
  | .f6, .iy, .c => .res_6_mIYd_C d
  | .f6, .iy, .d => .res_6_mIYd_D d
  | .f6, .iy, .e => .res_6_mIYd_E d
  | .f6, .iy, .h => .res_6_mIYd_H d
  | .f6, .iy, .l => .res_6_mIYd_L d
  | .f6, .iy, .a => .res_6_mIYd_A d
  | .f7, .iy, .b => .res_7_mIYd_B d
  | .f7, .iy, .c => .res_7_mIYd_C d
  | .f7, .iy, .d => .res_7_mIYd_D d
  | .f7, .iy, .e => .res_7_mIYd_E d
  | .f7, .iy, .h => .res_7_mIYd_H d
  | .f7, .iy, .l => .res_7_mIYd_L d
  | .f7, .iy, .a => .res_7_mIYd_A d

/-- `RES b,(XY+d)` (R404). -/
def resBitIdx (b : Field3) (x : Idx) (d : Byte) : Instr :=
  match b, x with
  | .f0, .ix => .res_0_mIXd d
  | .f1, .ix => .res_1_mIXd d
  | .f2, .ix => .res_2_mIXd d
  | .f3, .ix => .res_3_mIXd d
  | .f4, .ix => .res_4_mIXd d
  | .f5, .ix => .res_5_mIXd d
  | .f6, .ix => .res_6_mIXd d
  | .f7, .ix => .res_7_mIXd d
  | .f0, .iy => .res_0_mIYd d
  | .f1, .iy => .res_1_mIYd d
  | .f2, .iy => .res_2_mIYd d
  | .f3, .iy => .res_3_mIYd d
  | .f4, .iy => .res_4_mIYd d
  | .f5, .iy => .res_5_mIYd d
  | .f6, .iy => .res_6_mIYd d
  | .f7, .iy => .res_7_mIYd d

/-- `SET b,(XY+d),r` (R403). -/
def setBitIdxCopy (b : Field3) (x : Idx) (r : Reg8) (d : Byte) : Instr :=
  match b, x, r with
  | .f0, .ix, .b => .set_0_mIXd_B d
  | .f0, .ix, .c => .set_0_mIXd_C d
  | .f0, .ix, .d => .set_0_mIXd_D d
  | .f0, .ix, .e => .set_0_mIXd_E d
  | .f0, .ix, .h => .set_0_mIXd_H d
  | .f0, .ix, .l => .set_0_mIXd_L d
  | .f0, .ix, .a => .set_0_mIXd_A d
  | .f1, .ix, .b => .set_1_mIXd_B d
  | .f1, .ix, .c => .set_1_mIXd_C d
  | .f1, .ix, .d => .set_1_mIXd_D d
  | .f1, .ix, .e => .set_1_mIXd_E d
  | .f1, .ix, .h => .set_1_mIXd_H d
  | .f1, .ix, .l => .set_1_mIXd_L d
  | .f1, .ix, .a => .set_1_mIXd_A d
  | .f2, .ix, .b => .set_2_mIXd_B d
  | .f2, .ix, .c => .set_2_mIXd_C d
  | .f2, .ix, .d => .set_2_mIXd_D d
  | .f2, .ix, .e => .set_2_mIXd_E d
  | .f2, .ix, .h => .set_2_mIXd_H d
  | .f2, .ix, .l => .set_2_mIXd_L d
  | .f2, .ix, .a => .set_2_mIXd_A d
  | .f3, .ix, .b => .set_3_mIXd_B d
  | .f3, .ix, .c => .set_3_mIXd_C d
  | .f3, .ix, .d => .set_3_mIXd_D d
  | .f3, .ix, .e => .set_3_mIXd_E d
  | .f3, .ix, .h => .set_3_mIXd_H d
  | .f3, .ix, .l => .set_3_mIXd_L d
  | .f3, .ix, .a => .set_3_mIXd_A d
  | .f4, .ix, .b => .set_4_mIXd_B d
  | .f4, .ix, .c => .set_4_mIXd_C d
  | .f4, .ix, .d => .set_4_mIXd_D d
  | .f4, .ix, .e => .set_4_mIXd_E d
  | .f4, .ix, .h => .set_4_mIXd_H d
  | .f4, .ix, .l => .set_4_mIXd_L d
  | .f4, .ix, .a => .set_4_mIXd_A d
  | .f5, .ix, .b => .set_5_mIXd_B d
  | .f5, .ix, .c => .set_5_mIXd_C d
  | .f5, .ix, .d => .set_5_mIXd_D d
  | .f5, .ix, .e => .set_5_mIXd_E d
  | .f5, .ix, .h => .set_5_mIXd_H d
  | .f5, .ix, .l => .set_5_mIXd_L d
  | .f5, .ix, .a => .set_5_mIXd_A d
  | .f6, .ix, .b => .set_6_mIXd_B d
  | .f6, .ix, .c => .set_6_mIXd_C d
  | .f6, .ix, .d => .set_6_mIXd_D d
  | .f6, .ix, .e => .set_6_mIXd_E d
  | .f6, .ix, .h => .set_6_mIXd_H d
  | .f6, .ix, .l => .set_6_mIXd_L d
  | .f6, .ix, .a => .set_6_mIXd_A d
  | .f7, .ix, .b => .set_7_mIXd_B d
  | .f7, .ix, .c => .set_7_mIXd_C d
  | .f7, .ix, .d => .set_7_mIXd_D d
  | .f7, .ix, .e => .set_7_mIXd_E d
  | .f7, .ix, .h => .set_7_mIXd_H d
  | .f7, .ix, .l => .set_7_mIXd_L d
  | .f7, .ix, .a => .set_7_mIXd_A d
  | .f0, .iy, .b => .set_0_mIYd_B d
  | .f0, .iy, .c => .set_0_mIYd_C d
  | .f0, .iy, .d => .set_0_mIYd_D d
  | .f0, .iy, .e => .set_0_mIYd_E d
  | .f0, .iy, .h => .set_0_mIYd_H d
  | .f0, .iy, .l => .set_0_mIYd_L d
  | .f0, .iy, .a => .set_0_mIYd_A d
  | .f1, .iy, .b => .set_1_mIYd_B d
  | .f1, .iy, .c => .set_1_mIYd_C d
  | .f1, .iy, .d => .set_1_mIYd_D d
  | .f1, .iy, .e => .set_1_mIYd_E d
  | .f1, .iy, .h => .set_1_mIYd_H d
  | .f1, .iy, .l => .set_1_mIYd_L d
  | .f1, .iy, .a => .set_1_mIYd_A d
  | .f2, .iy, .b => .set_2_mIYd_B d
  | .f2, .iy, .c => .set_2_mIYd_C d
  | .f2, .iy, .d => .set_2_mIYd_D d
  | .f2, .iy, .e => .set_2_mIYd_E d
  | .f2, .iy, .h => .set_2_mIYd_H d
  | .f2, .iy, .l => .set_2_mIYd_L d
  | .f2, .iy, .a => .set_2_mIYd_A d
  | .f3, .iy, .b => .set_3_mIYd_B d
  | .f3, .iy, .c => .set_3_mIYd_C d
  | .f3, .iy, .d => .set_3_mIYd_D d
  | .f3, .iy, .e => .set_3_mIYd_E d
  | .f3, .iy, .h => .set_3_mIYd_H d
  | .f3, .iy, .l => .set_3_mIYd_L d
  | .f3, .iy, .a => .set_3_mIYd_A d
  | .f4, .iy, .b => .set_4_mIYd_B d
  | .f4, .iy, .c => .set_4_mIYd_C d
  | .f4, .iy, .d => .set_4_mIYd_D d
  | .f4, .iy, .e => .set_4_mIYd_E d
  | .f4, .iy, .h => .set_4_mIYd_H d
  | .f4, .iy, .l => .set_4_mIYd_L d
  | .f4, .iy, .a => .set_4_mIYd_A d
  | .f5, .iy, .b => .set_5_mIYd_B d
  | .f5, .iy, .c => .set_5_mIYd_C d
  | .f5, .iy, .d => .set_5_mIYd_D d
  | .f5, .iy, .e => .set_5_mIYd_E d
  | .f5, .iy, .h => .set_5_mIYd_H d
  | .f5, .iy, .l => .set_5_mIYd_L d
  | .f5, .iy, .a => .set_5_mIYd_A d
  | .f6, .iy, .b => .set_6_mIYd_B d
  | .f6, .iy, .c => .set_6_mIYd_C d
  | .f6, .iy, .d => .set_6_mIYd_D d
  | .f6, .iy, .e => .set_6_mIYd_E d
  | .f6, .iy, .h => .set_6_mIYd_H d
  | .f6, .iy, .l => .set_6_mIYd_L d
  | .f6, .iy, .a => .set_6_mIYd_A d
  | .f7, .iy, .b => .set_7_mIYd_B d
  | .f7, .iy, .c => .set_7_mIYd_C d
  | .f7, .iy, .d => .set_7_mIYd_D d
  | .f7, .iy, .e => .set_7_mIYd_E d
  | .f7, .iy, .h => .set_7_mIYd_H d
  | .f7, .iy, .l => .set_7_mIYd_L d
  | .f7, .iy, .a => .set_7_mIYd_A d

/-- `SET b,(XY+d)` (R403). -/
def setBitIdx (b : Field3) (x : Idx) (d : Byte) : Instr :=
  match b, x with
  | .f0, .ix => .set_0_mIXd d
  | .f1, .ix => .set_1_mIXd d
  | .f2, .ix => .set_2_mIXd d
  | .f3, .ix => .set_3_mIXd d
  | .f4, .ix => .set_4_mIXd d
  | .f5, .ix => .set_5_mIXd d
  | .f6, .ix => .set_6_mIXd d
  | .f7, .ix => .set_7_mIXd d
  | .f0, .iy => .set_0_mIYd d
  | .f1, .iy => .set_1_mIYd d
  | .f2, .iy => .set_2_mIYd d
  | .f3, .iy => .set_3_mIYd d
  | .f4, .iy => .set_4_mIYd d
  | .f5, .iy => .set_5_mIYd d
  | .f6, .iy => .set_6_mIYd d
  | .f7, .iy => .set_7_mIYd d

/-- `JR cc,e` (R424). -/
def jrCond (cc : JrCond) (e : Byte) : Instr :=
  match cc with
  | .nz => .jr_NZ_e e
  | .z => .jr_Z_e e
  | .nc => .jr_NC_e e
  | .c => .jr_C_e e

/-- `RET cc` (R431). -/
def retCond (cc : Cond) : Instr :=
  match cc with
  | .nz => .ret_NZ
  | .z => .ret_Z
  | .nc => .ret_NC
  | .c => .ret_C
  | .po => .ret_PO
  | .pe => .ret_PE
  | .p => .ret_P
  | .m => .ret_M

/-- `JP cc,nn` (R422). -/
def jpCond (cc : Cond) (nn : Word) : Instr :=
  match cc with
  | .nz => .jp_NZ_nn nn
  | .z => .jp_Z_nn nn
  | .nc => .jp_NC_nn nn
  | .c => .jp_C_nn nn
  | .po => .jp_PO_nn nn
  | .pe => .jp_PE_nn nn
  | .p => .jp_P_nn nn
  | .m => .jp_M_nn nn

/-- `CALL cc,nn` (R429). -/
def callCond (cc : Cond) (nn : Word) : Instr :=
  match cc with
  | .nz => .call_NZ_nn nn
  | .z => .call_Z_nn nn
  | .nc => .call_NC_nn nn
  | .c => .call_C_nn nn
  | .po => .call_PO_nn nn
  | .pe => .call_PE_nn nn
  | .p => .call_P_nn nn
  | .m => .call_M_nn nn

/-- `RST t` (R434). -/
def rst (t : Field3) : Instr :=
  match t with
  | .f0 => .rst_00H
  | .f1 => .rst_08H
  | .f2 => .rst_10H
  | .f3 => .rst_18H
  | .f4 => .rst_20H
  | .f5 => .rst_28H
  | .f6 => .rst_30H
  | .f7 => .rst_38H

/-- `JP (XY)` (R426). -/
def jpIdx (x : Idx) : Instr :=
  match x with
  | .ix => .jp_mIX
  | .iy => .jp_mIY

/-- `IN r,(C)` (R451). -/
def inReg (r : Reg8) : Instr :=
  match r with
  | .b => .in_B_pC
  | .c => .in_C_pC
  | .d => .in_D_pC
  | .e => .in_E_pC
  | .h => .in_H_pC
  | .l => .in_L_pC
  | .a => .in_A_pC

/-- `OUT (C),r` (R457). -/
def outReg (r : Reg8) : Instr :=
  match r with
  | .b => .out_pC_B
  | .c => .out_pC_C
  | .d => .out_pC_D
  | .e => .out_pC_E
  | .h => .out_pC_H
  | .l => .out_pC_L
  | .a => .out_pC_A

end Instr

/-! ## Fields of an opcode byte (R121, R124) -/

/-- A 3-bit number as a field value. -/
def fieldOf (k : Nat) : Field3 :=
  match k with
  | 0 => .f0
  | 1 => .f1
  | 2 => .f2
  | 3 => .f3
  | 4 => .f4
  | 5 => .f5
  | 6 => .f6
  | _ => .f7

/-- The number of a field value. -/
def Field3.value (f : Field3) : Nat :=
  match f with
  | .f0 => 0
  | .f1 => 1
  | .f2 => 2
  | .f3 => 3
  | .f4 => 4
  | .f5 => 5
  | .f6 => 6
  | .f7 => 7

/-- `x = o[7:6]`. -/
def xField (o : Byte) : Nat := o.toNat / 64

/-- `y = o[5:3]`. -/
def yField (o : Byte) : Field3 := fieldOf (o.toNat / 8 % 8)

/-- `z = o[2:0]`. -/
def zField (o : Byte) : Field3 := fieldOf (o.toNat % 8)

/-- `p = o[5:4]`, from y. -/
def pField (y : Field3) : Nat := y.value / 2

/-- `q = o[3]`, from y. -/
def qField (y : Field3) : Bool := y.value % 2 == 1

/-- The r column of R124; nothing for value 6, (HL). -/
def regOf (f : Field3) : Option Reg8 :=
  match f with
  | .f0 => some .b
  | .f1 => some .c
  | .f2 => some .d
  | .f3 => some .e
  | .f4 => some .h
  | .f5 => some .l
  | .f6 => none
  | .f7 => some .a

/-- The dd / ss column of R124. -/
def pairSSOf (p : Nat) : PairSS :=
  match p with
  | 0 => .bc
  | 1 => .de
  | 2 => .hl
  | _ => .sp

/-- The qq column of R124. -/
def pairQQOf (p : Nat) : PairQQ :=
  match p with
  | 0 => .bc
  | 1 => .de
  | 2 => .hl
  | _ => .af

/-- The pp and rr columns of R124. -/
def pairPPOf (p : Nat) : PairPP :=
  match p with
  | 0 => .bc
  | 1 => .de
  | 2 => .self
  | _ => .sp

/-- The cc column of R124. -/
def condOf (f : Field3) : Cond :=
  match f with
  | .f0 => .nz
  | .f1 => .z
  | .f2 => .nc
  | .f3 => .c
  | .f4 => .po
  | .f5 => .pe
  | .f6 => .p
  | .f7 => .m

/-- The ALU operation field of R124. -/
def aluOf (f : Field3) : AluOp :=
  match f with
  | .f0 => .add
  | .f1 => .adc
  | .f2 => .sub
  | .f3 => .sbc
  | .f4 => .and
  | .f5 => .xor
  | .f6 => .or
  | .f7 => .cp

/-- The rotate/shift field of R124. -/
def rotOf (f : Field3) : RotOp :=
  match f with
  | .f0 => .rlc
  | .f1 => .rrc
  | .f2 => .rl
  | .f3 => .rr
  | .f4 => .sla
  | .f5 => .sra
  | .f6 => .sll
  | .f7 => .srl

/-- What a register field names under a DD or FD prefix (R130): a plain register, or a half of the
index register; nothing for value 6. -/
def plainOrHalf (f : Field3) : Option (PlainReg ⊕ Half) :=
  match f with
  | .f0 => some (.inl .b)
  | .f1 => some (.inl .c)
  | .f2 => some (.inl .d)
  | .f3 => some (.inl .e)
  | .f4 => some (.inr .high)
  | .f5 => some (.inr .low)
  | .f6 => none
  | .f7 => some (.inl .a)

/-! ## The decoder -/

/-- Why bytes are no instruction: an encoding of R132, by its prefix and second byte, or too few
bytes (which a fetch of four bytes never sees). -/
inductive Reject where
  | invalidEd (o2 : Byte)
  | invalidIndex (x : Idx) (o2 : Byte)
  | truncated
  deriving DecidableEq, Repr

/-- An instruction with the bytes after it, or the reason there is none. -/
abbrev Decoded := Except Reject (Instr × List Byte)

/-- An instruction with no bytes after its opcode. -/
def plain (i : Instr) (rest : List Byte) : Decoded := .ok (i, rest)

/-- An instruction with one byte after its opcode (`Fetch8`, R123). -/
def withByte (k : Byte → Instr) (rest : List Byte) : Decoded :=
  match rest with
  | n :: t => .ok (k n, t)
  | [] => .error .truncated

/-- An instruction with a displacement and then an immediate byte (R207). -/
def withTwoBytes (k : Byte → Byte → Instr) (rest : List Byte) : Decoded :=
  match rest with
  | v :: n :: t => .ok (k v n, t)
  | _ => .error .truncated

/-- An instruction with a little-endian word after its opcode (`Fetch16`, R123). -/
def withWord (k : Word → Instr) (rest : List Byte) : Decoded :=
  match rest with
  | l :: h :: t => .ok (k (Machine.pair h l), t)
  | _ => .error .truncated

/-- The unprefixed opcodes with x = 0 (R135). -/
def decodeX0 (y z : Field3) (rest : List Byte) : Decoded :=
  match z with
  | .f0 =>
    match y with
    | .f0 => plain .nop rest
    | .f1 => plain .ex_AF_AF rest
    | .f2 => withByte .djnz_e rest
    | .f3 => withByte .jr_e rest
    | .f4 => withByte (.jrCond .nz) rest
    | .f5 => withByte (.jrCond .z) rest
    | .f6 => withByte (.jrCond .nc) rest
    | .f7 => withByte (.jrCond .c) rest
  | .f1 =>
    if qField y then plain (.addHlPair (pairSSOf (pField y))) rest
    else withWord (.ldPairImm (pairSSOf (pField y))) rest
  | .f2 =>
    match y with
    | .f0 => plain .ld_mBC_A rest
    | .f1 => plain .ld_A_mBC rest
    | .f2 => plain .ld_mDE_A rest
    | .f3 => plain .ld_A_mDE rest
    | .f4 => withWord .ld_mnn_HL rest
    | .f5 => withWord .ld_HL_mnn rest
    | .f6 => withWord .ld_mnn_A rest
    | .f7 => withWord .ld_A_mnn rest
  | .f3 =>
    if qField y then plain (.decPair (pairSSOf (pField y))) rest
    else plain (.incPair (pairSSOf (pField y))) rest
  | .f4 =>
    match regOf y with
    | some r => plain (.incReg r) rest
    | none => plain .inc_mHL rest
  | .f5 =>
    match regOf y with
    | some r => plain (.decReg r) rest
    | none => plain .dec_mHL rest
  | .f6 =>
    match regOf y with
    | some r => withByte (.ldRegImm r) rest
    | none => withByte .ld_mHL_n rest
  | .f7 =>
    match y with
    | .f0 => plain .rlca rest
    | .f1 => plain .rrca rest
    | .f2 => plain .rla rest
    | .f3 => plain .rra rest
    | .f4 => plain .daa rest
    | .f5 => plain .cpl rest
    | .f6 => plain .scf rest
    | .f7 => plain .ccf rest

/-- The unprefixed opcodes with x = 1 (R135): LD r,r' with (HL) at value 6, and HALT. -/
def decodeX1 (y z : Field3) (rest : List Byte) : Decoded :=
  match regOf y, regOf z with
  | some dst, some r => plain (.ldRegReg dst r) rest
  | some dst, none => plain (.ldRegMem dst) rest
  | none, some r => plain (.ldMemReg r) rest
  | none, none => plain .halt rest

/-- The unprefixed opcodes with x = 2 (R135). -/
def decodeX2 (y z : Field3) (rest : List Byte) : Decoded :=
  match regOf z with
  | some r => plain (.aluReg (aluOf y) r) rest
  | none => plain (.aluMem (aluOf y)) rest

/-- The CB layer (R127). -/
def decodeCB (o : Byte) : Instr :=
  let y := yField o
  match xField o, regOf (zField o) with
  | 0, some r => .rotReg (rotOf y) r
  | 0, none => .rotMem (rotOf y)
  | 1, some r => .bitReg y r
  | 1, none => .bitMem y
  | 2, some r => .resBitReg y r
  | 2, none => .resBitMem y
  | _, some r => .setBitReg y r
  | _, none => .setBitMem y

/-- The DDCB and FDCB layer (R128): d before the operation byte. -/
def decodeIdxCB (x : Idx) (d o : Byte) : Instr :=
  let y := yField o
  match xField o, regOf (zField o) with
  | 0, some r => .rotIdxCopy (rotOf y) x r d
  | 0, none => .rotIdx (rotOf y) x d
  | 1, _ => .bitIdx y x (zField o) d
  | 2, some r => .resBitIdxCopy y x r d
  | 2, none => .resBitIdx y x d
  | _, some r => .setBitIdxCopy y x r d
  | _, none => .setBitIdx y x d

/-- The ED layer (R129); every other second byte is invalid (R132). -/
def decodeED (o : Byte) (rest : List Byte) : Decoded :=
  let y := yField o
  let bad : Decoded := .error (.invalidEd o)
  match xField o with
  | 1 =>
    match zField o with
    | .f0 =>
      match regOf y with
      | some r => plain (.inReg r) rest
      | none => bad
    | .f1 =>
      match regOf y with
      | some r => plain (.outReg r) rest
      | none => bad
    | .f2 =>
      if qField y then plain (.adcHlPair (pairSSOf (pField y))) rest
      else plain (.sbcHlPair (pairSSOf (pField y))) rest
    | .f3 =>
      if qField y then withWord (.ldPairMem (pairSSOf (pField y))) rest
      else withWord (.ldMemPair (pairSSOf (pField y))) rest
    | .f4 =>
      match y with
      | .f0 => plain .neg rest
      | _ => bad
    | .f5 =>
      match y with
      | .f0 => plain .retn rest
      | .f1 => plain .reti rest
      | _ => bad
    | .f6 =>
      match y with
      | .f0 => plain .im_0 rest
      | .f2 => plain .im_1 rest
      | .f3 => plain .im_2 rest
      | _ => bad
    | .f7 =>
      match y with
      | .f0 => plain .ld_I_A rest
      | .f1 => plain .ld_R_A rest
      | .f2 => plain .ld_A_I rest
      | .f3 => plain .ld_A_R rest
      | .f4 => plain .rrd rest
      | .f5 => plain .rld rest
      | _ => bad
  | 2 =>
    match y, zField o with
    | .f4, .f0 => plain .ldi rest
    | .f4, .f1 => plain .cpi rest
    | .f4, .f2 => plain .ini rest
    | .f4, .f3 => plain .outi rest
    | .f5, .f0 => plain .ldd rest
    | .f5, .f1 => plain .cpd rest
    | .f5, .f2 => plain .ind rest
    | .f5, .f3 => plain .outd rest
    | .f6, .f0 => plain .ldir rest
    | .f6, .f1 => plain .cpir rest
    | .f6, .f2 => plain .inir rest
    | .f6, .f3 => plain .otir rest
    | .f7, .f0 => plain .lddr rest
    | .f7, .f1 => plain .cpdr rest
    | .f7, .f2 => plain .indr rest
    | .f7, .f3 => plain .otdr rest
    | _, _ => bad
  | _ => bad

/-- The DD and FD layer with x = 0 (R130, R135): the rows whose operands name HL, H, L or (HL). -/
def decodeIdxX0 (x : Idx) (o : Byte) (rest : List Byte) : Decoded :=
  let y := yField o
  let bad : Decoded := .error (.invalidIndex x o)
  match zField o with
  | .f1 =>
    if qField y then plain (.addIdxPair x (pairPPOf (pField y))) rest
    else if pField y = 2 then withWord (.ldIdxImm16 x) rest
    else bad
  | .f2 =>
    match y with
    | .f4 => withWord (.ldMemIdx x) rest
    | .f5 => withWord (.ldIdxMem x) rest
    | _ => bad
  | .f3 =>
    match y with
    | .f4 => plain (.incIdx16 x) rest
    | .f5 => plain (.decIdx16 x) rest
    | _ => bad
  | .f4 =>
    match y with
    | .f4 => plain (.incHalf x .high) rest
    | .f5 => plain (.incHalf x .low) rest
    | .f6 => withByte (.incIdx x) rest
    | _ => bad
  | .f5 =>
    match y with
    | .f4 => plain (.decHalf x .high) rest
    | .f5 => plain (.decHalf x .low) rest
    | .f6 => withByte (.decIdx x) rest
    | _ => bad
  | .f6 =>
    match y with
    | .f4 => withByte (.ldHalfImm x .high) rest
    | .f5 => withByte (.ldHalfImm x .low) rest
    | .f6 => withTwoBytes (.ldIdxImm x) rest
    | _ => bad
  | _ => bad

/-- The DD and FD layer with x = 1 (R130): with an (HL) operand H and L stay H and L, without one they
are the halves; at least one operand must be changed by the prefix. -/
def decodeIdxX1 (x : Idx) (o : Byte) (rest : List Byte) : Decoded :=
  let y := yField o
  let z := zField o
  let bad : Decoded := .error (.invalidIndex x o)
  match plainOrHalf y, plainOrHalf z with
  | some (.inl _), some (.inl _) => bad
  | some (.inl r), some (.inr k) => plain (.ldRegHalf r x k) rest
  | some (.inr k), some (.inl r) => plain (.ldHalfReg x k r) rest
  | some (.inr k), some (.inr k') => plain (.ldHalfHalf x k k') rest
  | some _, none =>
    match regOf y with
    | some r => withByte (.ldRegIdx r x) rest
    | none => bad
  | none, some _ =>
    match regOf z with
    | some r => withByte (.ldIdxReg x r) rest
    | none => bad
  | none, none => bad

/-- The DD and FD layer (R126, R130). -/
def decodeIdx (x : Idx) (o : Byte) (rest : List Byte) : Decoded :=
  let bad : Decoded := .error (.invalidIndex x o)
  match xField o with
  | 0 => decodeIdxX0 x o rest
  | 1 => decodeIdxX1 x o rest
  | 2 =>
    match zField o with
    | .f4 => plain (.aluHalf (aluOf (yField o)) x .high) rest
    | .f5 => plain (.aluHalf (aluOf (yField o)) x .low) rest
    | .f6 => withByte (.aluIdx (aluOf (yField o)) x) rest
    | _ => bad
  | _ =>
    if o = 0xCB then withTwoBytes (fun d op => decodeIdxCB x d op) rest
    else if o = 0xE1 then plain (.popIdx x) rest
    else if o = 0xE3 then plain (.exSpIdx x) rest
    else if o = 0xE5 then plain (.pushIdx x) rest
    else if o = 0xE9 then plain (.jpIdx x) rest
    else if o = 0xF9 then plain (.ldSpIdx x) rest
    else bad

/-- What a prefix byte at the head of the bytes leaves to decode: its second byte (R126). -/
def withSecond (k : Byte → List Byte → Decoded) (rest : List Byte) : Decoded :=
  match rest with
  | o :: t => k o t
  | [] => .error .truncated

/-- The unprefixed opcodes with x = 3 and the four prefixes (R126, R135). -/
def decodeX3 (y z : Field3) (rest : List Byte) : Decoded :=
  match z with
  | .f0 => plain (.retCond (condOf y)) rest
  | .f1 =>
    match y with
    | .f1 => plain .ret rest
    | .f3 => plain .exx rest
    | .f5 => plain .jp_mHL rest
    | .f7 => plain .ld_SP_HL rest
    | _ => plain (.popPair (pairQQOf (pField y))) rest
  | .f2 => withWord (.jpCond (condOf y)) rest
  | .f3 =>
    match y with
    | .f0 => withWord .jp_nn rest
    | .f1 => withSecond (fun o t => plain (decodeCB o) t) rest
    | .f2 => withByte .out_pn_A rest
    | .f3 => withByte .in_A_pn rest
    | .f4 => plain .ex_mSP_HL rest
    | .f5 => plain .ex_DE_HL rest
    | .f6 => plain .di rest
    | .f7 => plain .ei rest
  | .f4 => withWord (.callCond (condOf y)) rest
  | .f5 =>
    match y with
    | .f1 => withWord .call_nn rest
    | .f3 => withSecond (decodeIdx .ix) rest
    | .f5 => withSecond decodeED rest
    | .f7 => withSecond (decodeIdx .iy) rest
    | _ => plain (.pushPair (pairQQOf (pField y))) rest
  | .f6 => withByte (.aluImm (aluOf y)) rest
  | .f7 => plain (.rst y) rest

/-- `Decode` (R126): the instruction at the head of the bytes and the bytes after it. -/
def decode (bytes : List Byte) : Decoded :=
  match bytes with
  | [] => .error .truncated
  | o :: rest =>
    match xField o with
    | 0 => decodeX0 (yField o) (zField o) rest
    | 1 => decodeX1 (yField o) (zField o) rest
    | 2 => decodeX2 (yField o) (zField o) rest
    | _ => decodeX3 (yField o) (zField o) rest

/-! ## The encoder -/

/-- The bytes of an instruction in address order: the encoding column of its row. -/
def encode (i : Instr) : List Byte :=
  match i with
  | .nop => [0x00]
  | .ld_BC_nn nn => [0x01, Machine.lo nn, Machine.hi nn]
  | .ld_mBC_A => [0x02]
  | .inc_BC => [0x03]
  | .inc_B => [0x04]
  | .dec_B => [0x05]
  | .ld_B_n n => [0x06, n]
  | .rlca => [0x07]
  | .ex_AF_AF => [0x08]
  | .add_HL_BC => [0x09]
  | .ld_A_mBC => [0x0A]
  | .dec_BC => [0x0B]
  | .inc_C => [0x0C]
  | .dec_C => [0x0D]
  | .ld_C_n n => [0x0E, n]
  | .rrca => [0x0F]
  | .djnz_e e => [0x10, e]
  | .ld_DE_nn nn => [0x11, Machine.lo nn, Machine.hi nn]
  | .ld_mDE_A => [0x12]
  | .inc_DE => [0x13]
  | .inc_D => [0x14]
  | .dec_D => [0x15]
  | .ld_D_n n => [0x16, n]
  | .rla => [0x17]
  | .jr_e e => [0x18, e]
  | .add_HL_DE => [0x19]
  | .ld_A_mDE => [0x1A]
  | .dec_DE => [0x1B]
  | .inc_E => [0x1C]
  | .dec_E => [0x1D]
  | .ld_E_n n => [0x1E, n]
  | .rra => [0x1F]
  | .jr_NZ_e e => [0x20, e]
  | .ld_HL_nn nn => [0x21, Machine.lo nn, Machine.hi nn]
  | .ld_mnn_HL nn => [0x22, Machine.lo nn, Machine.hi nn]
  | .inc_HL => [0x23]
  | .inc_H => [0x24]
  | .dec_H => [0x25]
  | .ld_H_n n => [0x26, n]
  | .daa => [0x27]
  | .jr_Z_e e => [0x28, e]
  | .add_HL_HL => [0x29]
  | .ld_HL_mnn nn => [0x2A, Machine.lo nn, Machine.hi nn]
  | .dec_HL => [0x2B]
  | .inc_L => [0x2C]
  | .dec_L => [0x2D]
  | .ld_L_n n => [0x2E, n]
  | .cpl => [0x2F]
  | .jr_NC_e e => [0x30, e]
  | .ld_SP_nn nn => [0x31, Machine.lo nn, Machine.hi nn]
  | .ld_mnn_A nn => [0x32, Machine.lo nn, Machine.hi nn]
  | .inc_SP => [0x33]
  | .inc_mHL => [0x34]
  | .dec_mHL => [0x35]
  | .ld_mHL_n n => [0x36, n]
  | .scf => [0x37]
  | .jr_C_e e => [0x38, e]
  | .add_HL_SP => [0x39]
  | .ld_A_mnn nn => [0x3A, Machine.lo nn, Machine.hi nn]
  | .dec_SP => [0x3B]
  | .inc_A => [0x3C]
  | .dec_A => [0x3D]
  | .ld_A_n n => [0x3E, n]
  | .ccf => [0x3F]
  | .ld_B_B => [0x40]
  | .ld_B_C => [0x41]
  | .ld_B_D => [0x42]
  | .ld_B_E => [0x43]
  | .ld_B_H => [0x44]
  | .ld_B_L => [0x45]
  | .ld_B_mHL => [0x46]
  | .ld_B_A => [0x47]
  | .ld_C_B => [0x48]
  | .ld_C_C => [0x49]
  | .ld_C_D => [0x4A]
  | .ld_C_E => [0x4B]
  | .ld_C_H => [0x4C]
  | .ld_C_L => [0x4D]
  | .ld_C_mHL => [0x4E]
  | .ld_C_A => [0x4F]
  | .ld_D_B => [0x50]
  | .ld_D_C => [0x51]
  | .ld_D_D => [0x52]
  | .ld_D_E => [0x53]
  | .ld_D_H => [0x54]
  | .ld_D_L => [0x55]
  | .ld_D_mHL => [0x56]
  | .ld_D_A => [0x57]
  | .ld_E_B => [0x58]
  | .ld_E_C => [0x59]
  | .ld_E_D => [0x5A]
  | .ld_E_E => [0x5B]
  | .ld_E_H => [0x5C]
  | .ld_E_L => [0x5D]
  | .ld_E_mHL => [0x5E]
  | .ld_E_A => [0x5F]
  | .ld_H_B => [0x60]
  | .ld_H_C => [0x61]
  | .ld_H_D => [0x62]
  | .ld_H_E => [0x63]
  | .ld_H_H => [0x64]
  | .ld_H_L => [0x65]
  | .ld_H_mHL => [0x66]
  | .ld_H_A => [0x67]
  | .ld_L_B => [0x68]
  | .ld_L_C => [0x69]
  | .ld_L_D => [0x6A]
  | .ld_L_E => [0x6B]
  | .ld_L_H => [0x6C]
  | .ld_L_L => [0x6D]
  | .ld_L_mHL => [0x6E]
  | .ld_L_A => [0x6F]
  | .ld_mHL_B => [0x70]
  | .ld_mHL_C => [0x71]
  | .ld_mHL_D => [0x72]
  | .ld_mHL_E => [0x73]
  | .ld_mHL_H => [0x74]
  | .ld_mHL_L => [0x75]
  | .halt => [0x76]
  | .ld_mHL_A => [0x77]
  | .ld_A_B => [0x78]
  | .ld_A_C => [0x79]
  | .ld_A_D => [0x7A]
  | .ld_A_E => [0x7B]
  | .ld_A_H => [0x7C]
  | .ld_A_L => [0x7D]
  | .ld_A_mHL => [0x7E]
  | .ld_A_A => [0x7F]
  | .add_A_B => [0x80]
  | .add_A_C => [0x81]
  | .add_A_D => [0x82]
  | .add_A_E => [0x83]
  | .add_A_H => [0x84]
  | .add_A_L => [0x85]
  | .add_A_mHL => [0x86]
  | .add_A_A => [0x87]
  | .adc_A_B => [0x88]
  | .adc_A_C => [0x89]
  | .adc_A_D => [0x8A]
  | .adc_A_E => [0x8B]
  | .adc_A_H => [0x8C]
  | .adc_A_L => [0x8D]
  | .adc_A_mHL => [0x8E]
  | .adc_A_A => [0x8F]
  | .sub_B => [0x90]
  | .sub_C => [0x91]
  | .sub_D => [0x92]
  | .sub_E => [0x93]
  | .sub_H => [0x94]
  | .sub_L => [0x95]
  | .sub_mHL => [0x96]
  | .sub_A => [0x97]
  | .sbc_A_B => [0x98]
  | .sbc_A_C => [0x99]
  | .sbc_A_D => [0x9A]
  | .sbc_A_E => [0x9B]
  | .sbc_A_H => [0x9C]
  | .sbc_A_L => [0x9D]
  | .sbc_A_mHL => [0x9E]
  | .sbc_A_A => [0x9F]
  | .and_B => [0xA0]
  | .and_C => [0xA1]
  | .and_D => [0xA2]
  | .and_E => [0xA3]
  | .and_H => [0xA4]
  | .and_L => [0xA5]
  | .and_mHL => [0xA6]
  | .and_A => [0xA7]
  | .xor_B => [0xA8]
  | .xor_C => [0xA9]
  | .xor_D => [0xAA]
  | .xor_E => [0xAB]
  | .xor_H => [0xAC]
  | .xor_L => [0xAD]
  | .xor_mHL => [0xAE]
  | .xor_A => [0xAF]
  | .or_B => [0xB0]
  | .or_C => [0xB1]
  | .or_D => [0xB2]
  | .or_E => [0xB3]
  | .or_H => [0xB4]
  | .or_L => [0xB5]
  | .or_mHL => [0xB6]
  | .or_A => [0xB7]
  | .cp_B => [0xB8]
  | .cp_C => [0xB9]
  | .cp_D => [0xBA]
  | .cp_E => [0xBB]
  | .cp_H => [0xBC]
  | .cp_L => [0xBD]
  | .cp_mHL => [0xBE]
  | .cp_A => [0xBF]
  | .ret_NZ => [0xC0]
  | .pop_BC => [0xC1]
  | .jp_NZ_nn nn => [0xC2, Machine.lo nn, Machine.hi nn]
  | .jp_nn nn => [0xC3, Machine.lo nn, Machine.hi nn]
  | .call_NZ_nn nn => [0xC4, Machine.lo nn, Machine.hi nn]
  | .push_BC => [0xC5]
  | .add_A_n n => [0xC6, n]
  | .rst_00H => [0xC7]
  | .ret_Z => [0xC8]
  | .ret => [0xC9]
  | .jp_Z_nn nn => [0xCA, Machine.lo nn, Machine.hi nn]
  | .call_Z_nn nn => [0xCC, Machine.lo nn, Machine.hi nn]
  | .call_nn nn => [0xCD, Machine.lo nn, Machine.hi nn]
  | .adc_A_n n => [0xCE, n]
  | .rst_08H => [0xCF]
  | .ret_NC => [0xD0]
  | .pop_DE => [0xD1]
  | .jp_NC_nn nn => [0xD2, Machine.lo nn, Machine.hi nn]
  | .out_pn_A n => [0xD3, n]
  | .call_NC_nn nn => [0xD4, Machine.lo nn, Machine.hi nn]
  | .push_DE => [0xD5]
  | .sub_n n => [0xD6, n]
  | .rst_10H => [0xD7]
  | .ret_C => [0xD8]
  | .exx => [0xD9]
  | .jp_C_nn nn => [0xDA, Machine.lo nn, Machine.hi nn]
  | .in_A_pn n => [0xDB, n]
  | .call_C_nn nn => [0xDC, Machine.lo nn, Machine.hi nn]
  | .sbc_A_n n => [0xDE, n]
  | .rst_18H => [0xDF]
  | .ret_PO => [0xE0]
  | .pop_HL => [0xE1]
  | .jp_PO_nn nn => [0xE2, Machine.lo nn, Machine.hi nn]
  | .ex_mSP_HL => [0xE3]
  | .call_PO_nn nn => [0xE4, Machine.lo nn, Machine.hi nn]
  | .push_HL => [0xE5]
  | .and_n n => [0xE6, n]
  | .rst_20H => [0xE7]
  | .ret_PE => [0xE8]
  | .jp_mHL => [0xE9]
  | .jp_PE_nn nn => [0xEA, Machine.lo nn, Machine.hi nn]
  | .ex_DE_HL => [0xEB]
  | .call_PE_nn nn => [0xEC, Machine.lo nn, Machine.hi nn]
  | .xor_n n => [0xEE, n]
  | .rst_28H => [0xEF]
  | .ret_P => [0xF0]
  | .pop_AF => [0xF1]
  | .jp_P_nn nn => [0xF2, Machine.lo nn, Machine.hi nn]
  | .di => [0xF3]
  | .call_P_nn nn => [0xF4, Machine.lo nn, Machine.hi nn]
  | .push_AF => [0xF5]
  | .or_n n => [0xF6, n]
  | .rst_30H => [0xF7]
  | .ret_M => [0xF8]
  | .ld_SP_HL => [0xF9]
  | .jp_M_nn nn => [0xFA, Machine.lo nn, Machine.hi nn]
  | .ei => [0xFB]
  | .call_M_nn nn => [0xFC, Machine.lo nn, Machine.hi nn]
  | .cp_n n => [0xFE, n]
  | .rst_38H => [0xFF]
  | .rlc_B => [0xCB, 0x00]
  | .rlc_C => [0xCB, 0x01]
  | .rlc_D => [0xCB, 0x02]
  | .rlc_E => [0xCB, 0x03]
  | .rlc_H => [0xCB, 0x04]
  | .rlc_L => [0xCB, 0x05]
  | .rlc_mHL => [0xCB, 0x06]
  | .rlc_A => [0xCB, 0x07]
  | .rrc_B => [0xCB, 0x08]
  | .rrc_C => [0xCB, 0x09]
  | .rrc_D => [0xCB, 0x0A]
  | .rrc_E => [0xCB, 0x0B]
  | .rrc_H => [0xCB, 0x0C]
  | .rrc_L => [0xCB, 0x0D]
  | .rrc_mHL => [0xCB, 0x0E]
  | .rrc_A => [0xCB, 0x0F]
  | .rl_B => [0xCB, 0x10]
  | .rl_C => [0xCB, 0x11]
  | .rl_D => [0xCB, 0x12]
  | .rl_E => [0xCB, 0x13]
  | .rl_H => [0xCB, 0x14]
  | .rl_L => [0xCB, 0x15]
  | .rl_mHL => [0xCB, 0x16]
  | .rl_A => [0xCB, 0x17]
  | .rr_B => [0xCB, 0x18]
  | .rr_C => [0xCB, 0x19]
  | .rr_D => [0xCB, 0x1A]
  | .rr_E => [0xCB, 0x1B]
  | .rr_H => [0xCB, 0x1C]
  | .rr_L => [0xCB, 0x1D]
  | .rr_mHL => [0xCB, 0x1E]
  | .rr_A => [0xCB, 0x1F]
  | .sla_B => [0xCB, 0x20]
  | .sla_C => [0xCB, 0x21]
  | .sla_D => [0xCB, 0x22]
  | .sla_E => [0xCB, 0x23]
  | .sla_H => [0xCB, 0x24]
  | .sla_L => [0xCB, 0x25]
  | .sla_mHL => [0xCB, 0x26]
  | .sla_A => [0xCB, 0x27]
  | .sra_B => [0xCB, 0x28]
  | .sra_C => [0xCB, 0x29]
  | .sra_D => [0xCB, 0x2A]
  | .sra_E => [0xCB, 0x2B]
  | .sra_H => [0xCB, 0x2C]
  | .sra_L => [0xCB, 0x2D]
  | .sra_mHL => [0xCB, 0x2E]
  | .sra_A => [0xCB, 0x2F]
  | .sll_B => [0xCB, 0x30]
  | .sll_C => [0xCB, 0x31]
  | .sll_D => [0xCB, 0x32]
  | .sll_E => [0xCB, 0x33]
  | .sll_H => [0xCB, 0x34]
  | .sll_L => [0xCB, 0x35]
  | .sll_mHL => [0xCB, 0x36]
  | .sll_A => [0xCB, 0x37]
  | .srl_B => [0xCB, 0x38]
  | .srl_C => [0xCB, 0x39]
  | .srl_D => [0xCB, 0x3A]
  | .srl_E => [0xCB, 0x3B]
  | .srl_H => [0xCB, 0x3C]
  | .srl_L => [0xCB, 0x3D]
  | .srl_mHL => [0xCB, 0x3E]
  | .srl_A => [0xCB, 0x3F]
  | .bit_0_B => [0xCB, 0x40]
  | .bit_0_C => [0xCB, 0x41]
  | .bit_0_D => [0xCB, 0x42]
  | .bit_0_E => [0xCB, 0x43]
  | .bit_0_H => [0xCB, 0x44]
  | .bit_0_L => [0xCB, 0x45]
  | .bit_0_mHL => [0xCB, 0x46]
  | .bit_0_A => [0xCB, 0x47]
  | .bit_1_B => [0xCB, 0x48]
  | .bit_1_C => [0xCB, 0x49]
  | .bit_1_D => [0xCB, 0x4A]
  | .bit_1_E => [0xCB, 0x4B]
  | .bit_1_H => [0xCB, 0x4C]
  | .bit_1_L => [0xCB, 0x4D]
  | .bit_1_mHL => [0xCB, 0x4E]
  | .bit_1_A => [0xCB, 0x4F]
  | .bit_2_B => [0xCB, 0x50]
  | .bit_2_C => [0xCB, 0x51]
  | .bit_2_D => [0xCB, 0x52]
  | .bit_2_E => [0xCB, 0x53]
  | .bit_2_H => [0xCB, 0x54]
  | .bit_2_L => [0xCB, 0x55]
  | .bit_2_mHL => [0xCB, 0x56]
  | .bit_2_A => [0xCB, 0x57]
  | .bit_3_B => [0xCB, 0x58]
  | .bit_3_C => [0xCB, 0x59]
  | .bit_3_D => [0xCB, 0x5A]
  | .bit_3_E => [0xCB, 0x5B]
  | .bit_3_H => [0xCB, 0x5C]
  | .bit_3_L => [0xCB, 0x5D]
  | .bit_3_mHL => [0xCB, 0x5E]
  | .bit_3_A => [0xCB, 0x5F]
  | .bit_4_B => [0xCB, 0x60]
  | .bit_4_C => [0xCB, 0x61]
  | .bit_4_D => [0xCB, 0x62]
  | .bit_4_E => [0xCB, 0x63]
  | .bit_4_H => [0xCB, 0x64]
  | .bit_4_L => [0xCB, 0x65]
  | .bit_4_mHL => [0xCB, 0x66]
  | .bit_4_A => [0xCB, 0x67]
  | .bit_5_B => [0xCB, 0x68]
  | .bit_5_C => [0xCB, 0x69]
  | .bit_5_D => [0xCB, 0x6A]
  | .bit_5_E => [0xCB, 0x6B]
  | .bit_5_H => [0xCB, 0x6C]
  | .bit_5_L => [0xCB, 0x6D]
  | .bit_5_mHL => [0xCB, 0x6E]
  | .bit_5_A => [0xCB, 0x6F]
  | .bit_6_B => [0xCB, 0x70]
  | .bit_6_C => [0xCB, 0x71]
  | .bit_6_D => [0xCB, 0x72]
  | .bit_6_E => [0xCB, 0x73]
  | .bit_6_H => [0xCB, 0x74]
  | .bit_6_L => [0xCB, 0x75]
  | .bit_6_mHL => [0xCB, 0x76]
  | .bit_6_A => [0xCB, 0x77]
  | .bit_7_B => [0xCB, 0x78]
  | .bit_7_C => [0xCB, 0x79]
  | .bit_7_D => [0xCB, 0x7A]
  | .bit_7_E => [0xCB, 0x7B]
  | .bit_7_H => [0xCB, 0x7C]
  | .bit_7_L => [0xCB, 0x7D]
  | .bit_7_mHL => [0xCB, 0x7E]
  | .bit_7_A => [0xCB, 0x7F]
  | .res_0_B => [0xCB, 0x80]
  | .res_0_C => [0xCB, 0x81]
  | .res_0_D => [0xCB, 0x82]
  | .res_0_E => [0xCB, 0x83]
  | .res_0_H => [0xCB, 0x84]
  | .res_0_L => [0xCB, 0x85]
  | .res_0_mHL => [0xCB, 0x86]
  | .res_0_A => [0xCB, 0x87]
  | .res_1_B => [0xCB, 0x88]
  | .res_1_C => [0xCB, 0x89]
  | .res_1_D => [0xCB, 0x8A]
  | .res_1_E => [0xCB, 0x8B]
  | .res_1_H => [0xCB, 0x8C]
  | .res_1_L => [0xCB, 0x8D]
  | .res_1_mHL => [0xCB, 0x8E]
  | .res_1_A => [0xCB, 0x8F]
  | .res_2_B => [0xCB, 0x90]
  | .res_2_C => [0xCB, 0x91]
  | .res_2_D => [0xCB, 0x92]
  | .res_2_E => [0xCB, 0x93]
  | .res_2_H => [0xCB, 0x94]
  | .res_2_L => [0xCB, 0x95]
  | .res_2_mHL => [0xCB, 0x96]
  | .res_2_A => [0xCB, 0x97]
  | .res_3_B => [0xCB, 0x98]
  | .res_3_C => [0xCB, 0x99]
  | .res_3_D => [0xCB, 0x9A]
  | .res_3_E => [0xCB, 0x9B]
  | .res_3_H => [0xCB, 0x9C]
  | .res_3_L => [0xCB, 0x9D]
  | .res_3_mHL => [0xCB, 0x9E]
  | .res_3_A => [0xCB, 0x9F]
  | .res_4_B => [0xCB, 0xA0]
  | .res_4_C => [0xCB, 0xA1]
  | .res_4_D => [0xCB, 0xA2]
  | .res_4_E => [0xCB, 0xA3]
  | .res_4_H => [0xCB, 0xA4]
  | .res_4_L => [0xCB, 0xA5]
  | .res_4_mHL => [0xCB, 0xA6]
  | .res_4_A => [0xCB, 0xA7]
  | .res_5_B => [0xCB, 0xA8]
  | .res_5_C => [0xCB, 0xA9]
  | .res_5_D => [0xCB, 0xAA]
  | .res_5_E => [0xCB, 0xAB]
  | .res_5_H => [0xCB, 0xAC]
  | .res_5_L => [0xCB, 0xAD]
  | .res_5_mHL => [0xCB, 0xAE]
  | .res_5_A => [0xCB, 0xAF]
  | .res_6_B => [0xCB, 0xB0]
  | .res_6_C => [0xCB, 0xB1]
  | .res_6_D => [0xCB, 0xB2]
  | .res_6_E => [0xCB, 0xB3]
  | .res_6_H => [0xCB, 0xB4]
  | .res_6_L => [0xCB, 0xB5]
  | .res_6_mHL => [0xCB, 0xB6]
  | .res_6_A => [0xCB, 0xB7]
  | .res_7_B => [0xCB, 0xB8]
  | .res_7_C => [0xCB, 0xB9]
  | .res_7_D => [0xCB, 0xBA]
  | .res_7_E => [0xCB, 0xBB]
  | .res_7_H => [0xCB, 0xBC]
  | .res_7_L => [0xCB, 0xBD]
  | .res_7_mHL => [0xCB, 0xBE]
  | .res_7_A => [0xCB, 0xBF]
  | .set_0_B => [0xCB, 0xC0]
  | .set_0_C => [0xCB, 0xC1]
  | .set_0_D => [0xCB, 0xC2]
  | .set_0_E => [0xCB, 0xC3]
  | .set_0_H => [0xCB, 0xC4]
  | .set_0_L => [0xCB, 0xC5]
  | .set_0_mHL => [0xCB, 0xC6]
  | .set_0_A => [0xCB, 0xC7]
  | .set_1_B => [0xCB, 0xC8]
  | .set_1_C => [0xCB, 0xC9]
  | .set_1_D => [0xCB, 0xCA]
  | .set_1_E => [0xCB, 0xCB]
  | .set_1_H => [0xCB, 0xCC]
  | .set_1_L => [0xCB, 0xCD]
  | .set_1_mHL => [0xCB, 0xCE]
  | .set_1_A => [0xCB, 0xCF]
  | .set_2_B => [0xCB, 0xD0]
  | .set_2_C => [0xCB, 0xD1]
  | .set_2_D => [0xCB, 0xD2]
  | .set_2_E => [0xCB, 0xD3]
  | .set_2_H => [0xCB, 0xD4]
  | .set_2_L => [0xCB, 0xD5]
  | .set_2_mHL => [0xCB, 0xD6]
  | .set_2_A => [0xCB, 0xD7]
  | .set_3_B => [0xCB, 0xD8]
  | .set_3_C => [0xCB, 0xD9]
  | .set_3_D => [0xCB, 0xDA]
  | .set_3_E => [0xCB, 0xDB]
  | .set_3_H => [0xCB, 0xDC]
  | .set_3_L => [0xCB, 0xDD]
  | .set_3_mHL => [0xCB, 0xDE]
  | .set_3_A => [0xCB, 0xDF]
  | .set_4_B => [0xCB, 0xE0]
  | .set_4_C => [0xCB, 0xE1]
  | .set_4_D => [0xCB, 0xE2]
  | .set_4_E => [0xCB, 0xE3]
  | .set_4_H => [0xCB, 0xE4]
  | .set_4_L => [0xCB, 0xE5]
  | .set_4_mHL => [0xCB, 0xE6]
  | .set_4_A => [0xCB, 0xE7]
  | .set_5_B => [0xCB, 0xE8]
  | .set_5_C => [0xCB, 0xE9]
  | .set_5_D => [0xCB, 0xEA]
  | .set_5_E => [0xCB, 0xEB]
  | .set_5_H => [0xCB, 0xEC]
  | .set_5_L => [0xCB, 0xED]
  | .set_5_mHL => [0xCB, 0xEE]
  | .set_5_A => [0xCB, 0xEF]
  | .set_6_B => [0xCB, 0xF0]
  | .set_6_C => [0xCB, 0xF1]
  | .set_6_D => [0xCB, 0xF2]
  | .set_6_E => [0xCB, 0xF3]
  | .set_6_H => [0xCB, 0xF4]
  | .set_6_L => [0xCB, 0xF5]
  | .set_6_mHL => [0xCB, 0xF6]
  | .set_6_A => [0xCB, 0xF7]
  | .set_7_B => [0xCB, 0xF8]
  | .set_7_C => [0xCB, 0xF9]
  | .set_7_D => [0xCB, 0xFA]
  | .set_7_E => [0xCB, 0xFB]
  | .set_7_H => [0xCB, 0xFC]
  | .set_7_L => [0xCB, 0xFD]
  | .set_7_mHL => [0xCB, 0xFE]
  | .set_7_A => [0xCB, 0xFF]
  | .in_B_pC => [0xED, 0x40]
  | .out_pC_B => [0xED, 0x41]
  | .sbc_HL_BC => [0xED, 0x42]
  | .ld_mnn_BC nn => [0xED, 0x43, Machine.lo nn, Machine.hi nn]
  | .neg => [0xED, 0x44]
  | .retn => [0xED, 0x45]
  | .im_0 => [0xED, 0x46]
  | .ld_I_A => [0xED, 0x47]
  | .in_C_pC => [0xED, 0x48]
  | .out_pC_C => [0xED, 0x49]
  | .adc_HL_BC => [0xED, 0x4A]
  | .ld_BC_mnn nn => [0xED, 0x4B, Machine.lo nn, Machine.hi nn]
  | .reti => [0xED, 0x4D]
  | .ld_R_A => [0xED, 0x4F]
  | .in_D_pC => [0xED, 0x50]
  | .out_pC_D => [0xED, 0x51]
  | .sbc_HL_DE => [0xED, 0x52]
  | .ld_mnn_DE nn => [0xED, 0x53, Machine.lo nn, Machine.hi nn]
  | .im_1 => [0xED, 0x56]
  | .ld_A_I => [0xED, 0x57]
  | .in_E_pC => [0xED, 0x58]
  | .out_pC_E => [0xED, 0x59]
  | .adc_HL_DE => [0xED, 0x5A]
  | .ld_DE_mnn nn => [0xED, 0x5B, Machine.lo nn, Machine.hi nn]
  | .im_2 => [0xED, 0x5E]
  | .ld_A_R => [0xED, 0x5F]
  | .in_H_pC => [0xED, 0x60]
  | .out_pC_H => [0xED, 0x61]
  | .sbc_HL_HL => [0xED, 0x62]
  | .ld_mnn_HL_ed nn => [0xED, 0x63, Machine.lo nn, Machine.hi nn]
  | .rrd => [0xED, 0x67]
  | .in_L_pC => [0xED, 0x68]
  | .out_pC_L => [0xED, 0x69]
  | .adc_HL_HL => [0xED, 0x6A]
  | .ld_HL_mnn_ed nn => [0xED, 0x6B, Machine.lo nn, Machine.hi nn]
  | .rld => [0xED, 0x6F]
  | .sbc_HL_SP => [0xED, 0x72]
  | .ld_mnn_SP nn => [0xED, 0x73, Machine.lo nn, Machine.hi nn]
  | .in_A_pC => [0xED, 0x78]
  | .out_pC_A => [0xED, 0x79]
  | .adc_HL_SP => [0xED, 0x7A]
  | .ld_SP_mnn nn => [0xED, 0x7B, Machine.lo nn, Machine.hi nn]
  | .ldi => [0xED, 0xA0]
  | .cpi => [0xED, 0xA1]
  | .ini => [0xED, 0xA2]
  | .outi => [0xED, 0xA3]
  | .ldd => [0xED, 0xA8]
  | .cpd => [0xED, 0xA9]
  | .ind => [0xED, 0xAA]
  | .outd => [0xED, 0xAB]
  | .ldir => [0xED, 0xB0]
  | .cpir => [0xED, 0xB1]
  | .inir => [0xED, 0xB2]
  | .otir => [0xED, 0xB3]
  | .lddr => [0xED, 0xB8]
  | .cpdr => [0xED, 0xB9]
  | .indr => [0xED, 0xBA]
  | .otdr => [0xED, 0xBB]
  | .add_IX_BC => [0xDD, 0x09]
  | .add_IX_DE => [0xDD, 0x19]
  | .ld_IX_nn nn => [0xDD, 0x21, Machine.lo nn, Machine.hi nn]
  | .ld_mnn_IX nn => [0xDD, 0x22, Machine.lo nn, Machine.hi nn]
  | .inc_IX => [0xDD, 0x23]
  | .inc_IXH => [0xDD, 0x24]
  | .dec_IXH => [0xDD, 0x25]
  | .ld_IXH_n n => [0xDD, 0x26, n]
  | .add_IX_IX => [0xDD, 0x29]
  | .ld_IX_mnn nn => [0xDD, 0x2A, Machine.lo nn, Machine.hi nn]
  | .dec_IX => [0xDD, 0x2B]
  | .inc_IXL => [0xDD, 0x2C]
  | .dec_IXL => [0xDD, 0x2D]
  | .ld_IXL_n n => [0xDD, 0x2E, n]
  | .inc_mIXd d => [0xDD, 0x34, d]
  | .dec_mIXd d => [0xDD, 0x35, d]
  | .ld_mIXd_n d n => [0xDD, 0x36, d, n]
  | .add_IX_SP => [0xDD, 0x39]
  | .ld_B_IXH => [0xDD, 0x44]
  | .ld_B_IXL => [0xDD, 0x45]
  | .ld_B_mIXd d => [0xDD, 0x46, d]
  | .ld_C_IXH => [0xDD, 0x4C]
  | .ld_C_IXL => [0xDD, 0x4D]
  | .ld_C_mIXd d => [0xDD, 0x4E, d]
  | .ld_D_IXH => [0xDD, 0x54]
  | .ld_D_IXL => [0xDD, 0x55]
  | .ld_D_mIXd d => [0xDD, 0x56, d]
  | .ld_E_IXH => [0xDD, 0x5C]
  | .ld_E_IXL => [0xDD, 0x5D]
  | .ld_E_mIXd d => [0xDD, 0x5E, d]
  | .ld_IXH_B => [0xDD, 0x60]
  | .ld_IXH_C => [0xDD, 0x61]
  | .ld_IXH_D => [0xDD, 0x62]
  | .ld_IXH_E => [0xDD, 0x63]
  | .ld_IXH_IXH => [0xDD, 0x64]
  | .ld_IXH_IXL => [0xDD, 0x65]
  | .ld_H_mIXd d => [0xDD, 0x66, d]
  | .ld_IXH_A => [0xDD, 0x67]
  | .ld_IXL_B => [0xDD, 0x68]
  | .ld_IXL_C => [0xDD, 0x69]
  | .ld_IXL_D => [0xDD, 0x6A]
  | .ld_IXL_E => [0xDD, 0x6B]
  | .ld_IXL_IXH => [0xDD, 0x6C]
  | .ld_IXL_IXL => [0xDD, 0x6D]
  | .ld_L_mIXd d => [0xDD, 0x6E, d]
  | .ld_IXL_A => [0xDD, 0x6F]
  | .ld_mIXd_B d => [0xDD, 0x70, d]
  | .ld_mIXd_C d => [0xDD, 0x71, d]
  | .ld_mIXd_D d => [0xDD, 0x72, d]
  | .ld_mIXd_E d => [0xDD, 0x73, d]
  | .ld_mIXd_H d => [0xDD, 0x74, d]
  | .ld_mIXd_L d => [0xDD, 0x75, d]
  | .ld_mIXd_A d => [0xDD, 0x77, d]
  | .ld_A_IXH => [0xDD, 0x7C]
  | .ld_A_IXL => [0xDD, 0x7D]
  | .ld_A_mIXd d => [0xDD, 0x7E, d]
  | .add_A_IXH => [0xDD, 0x84]
  | .add_A_IXL => [0xDD, 0x85]
  | .add_A_mIXd d => [0xDD, 0x86, d]
  | .adc_A_IXH => [0xDD, 0x8C]
  | .adc_A_IXL => [0xDD, 0x8D]
  | .adc_A_mIXd d => [0xDD, 0x8E, d]
  | .sub_IXH => [0xDD, 0x94]
  | .sub_IXL => [0xDD, 0x95]
  | .sub_mIXd d => [0xDD, 0x96, d]
  | .sbc_A_IXH => [0xDD, 0x9C]
  | .sbc_A_IXL => [0xDD, 0x9D]
  | .sbc_A_mIXd d => [0xDD, 0x9E, d]
  | .and_IXH => [0xDD, 0xA4]
  | .and_IXL => [0xDD, 0xA5]
  | .and_mIXd d => [0xDD, 0xA6, d]
  | .xor_IXH => [0xDD, 0xAC]
  | .xor_IXL => [0xDD, 0xAD]
  | .xor_mIXd d => [0xDD, 0xAE, d]
  | .or_IXH => [0xDD, 0xB4]
  | .or_IXL => [0xDD, 0xB5]
  | .or_mIXd d => [0xDD, 0xB6, d]
  | .cp_IXH => [0xDD, 0xBC]
  | .cp_IXL => [0xDD, 0xBD]
  | .cp_mIXd d => [0xDD, 0xBE, d]
  | .pop_IX => [0xDD, 0xE1]
  | .ex_mSP_IX => [0xDD, 0xE3]
  | .push_IX => [0xDD, 0xE5]
  | .jp_mIX => [0xDD, 0xE9]
  | .ld_SP_IX => [0xDD, 0xF9]
  | .rlc_mIXd_B d => [0xDD, 0xCB, d, 0x00]
  | .rlc_mIXd_C d => [0xDD, 0xCB, d, 0x01]
  | .rlc_mIXd_D d => [0xDD, 0xCB, d, 0x02]
  | .rlc_mIXd_E d => [0xDD, 0xCB, d, 0x03]
  | .rlc_mIXd_H d => [0xDD, 0xCB, d, 0x04]
  | .rlc_mIXd_L d => [0xDD, 0xCB, d, 0x05]
  | .rlc_mIXd d => [0xDD, 0xCB, d, 0x06]
  | .rlc_mIXd_A d => [0xDD, 0xCB, d, 0x07]
  | .rrc_mIXd_B d => [0xDD, 0xCB, d, 0x08]
  | .rrc_mIXd_C d => [0xDD, 0xCB, d, 0x09]
  | .rrc_mIXd_D d => [0xDD, 0xCB, d, 0x0A]
  | .rrc_mIXd_E d => [0xDD, 0xCB, d, 0x0B]
  | .rrc_mIXd_H d => [0xDD, 0xCB, d, 0x0C]
  | .rrc_mIXd_L d => [0xDD, 0xCB, d, 0x0D]
  | .rrc_mIXd d => [0xDD, 0xCB, d, 0x0E]
  | .rrc_mIXd_A d => [0xDD, 0xCB, d, 0x0F]
  | .rl_mIXd_B d => [0xDD, 0xCB, d, 0x10]
  | .rl_mIXd_C d => [0xDD, 0xCB, d, 0x11]
  | .rl_mIXd_D d => [0xDD, 0xCB, d, 0x12]
  | .rl_mIXd_E d => [0xDD, 0xCB, d, 0x13]
  | .rl_mIXd_H d => [0xDD, 0xCB, d, 0x14]
  | .rl_mIXd_L d => [0xDD, 0xCB, d, 0x15]
  | .rl_mIXd d => [0xDD, 0xCB, d, 0x16]
  | .rl_mIXd_A d => [0xDD, 0xCB, d, 0x17]
  | .rr_mIXd_B d => [0xDD, 0xCB, d, 0x18]
  | .rr_mIXd_C d => [0xDD, 0xCB, d, 0x19]
  | .rr_mIXd_D d => [0xDD, 0xCB, d, 0x1A]
  | .rr_mIXd_E d => [0xDD, 0xCB, d, 0x1B]
  | .rr_mIXd_H d => [0xDD, 0xCB, d, 0x1C]
  | .rr_mIXd_L d => [0xDD, 0xCB, d, 0x1D]
  | .rr_mIXd d => [0xDD, 0xCB, d, 0x1E]
  | .rr_mIXd_A d => [0xDD, 0xCB, d, 0x1F]
  | .sla_mIXd_B d => [0xDD, 0xCB, d, 0x20]
  | .sla_mIXd_C d => [0xDD, 0xCB, d, 0x21]
  | .sla_mIXd_D d => [0xDD, 0xCB, d, 0x22]
  | .sla_mIXd_E d => [0xDD, 0xCB, d, 0x23]
  | .sla_mIXd_H d => [0xDD, 0xCB, d, 0x24]
  | .sla_mIXd_L d => [0xDD, 0xCB, d, 0x25]
  | .sla_mIXd d => [0xDD, 0xCB, d, 0x26]
  | .sla_mIXd_A d => [0xDD, 0xCB, d, 0x27]
  | .sra_mIXd_B d => [0xDD, 0xCB, d, 0x28]
  | .sra_mIXd_C d => [0xDD, 0xCB, d, 0x29]
  | .sra_mIXd_D d => [0xDD, 0xCB, d, 0x2A]
  | .sra_mIXd_E d => [0xDD, 0xCB, d, 0x2B]
  | .sra_mIXd_H d => [0xDD, 0xCB, d, 0x2C]
  | .sra_mIXd_L d => [0xDD, 0xCB, d, 0x2D]
  | .sra_mIXd d => [0xDD, 0xCB, d, 0x2E]
  | .sra_mIXd_A d => [0xDD, 0xCB, d, 0x2F]
  | .sll_mIXd_B d => [0xDD, 0xCB, d, 0x30]
  | .sll_mIXd_C d => [0xDD, 0xCB, d, 0x31]
  | .sll_mIXd_D d => [0xDD, 0xCB, d, 0x32]
  | .sll_mIXd_E d => [0xDD, 0xCB, d, 0x33]
  | .sll_mIXd_H d => [0xDD, 0xCB, d, 0x34]
  | .sll_mIXd_L d => [0xDD, 0xCB, d, 0x35]
  | .sll_mIXd d => [0xDD, 0xCB, d, 0x36]
  | .sll_mIXd_A d => [0xDD, 0xCB, d, 0x37]
  | .srl_mIXd_B d => [0xDD, 0xCB, d, 0x38]
  | .srl_mIXd_C d => [0xDD, 0xCB, d, 0x39]
  | .srl_mIXd_D d => [0xDD, 0xCB, d, 0x3A]
  | .srl_mIXd_E d => [0xDD, 0xCB, d, 0x3B]
  | .srl_mIXd_H d => [0xDD, 0xCB, d, 0x3C]
  | .srl_mIXd_L d => [0xDD, 0xCB, d, 0x3D]
  | .srl_mIXd d => [0xDD, 0xCB, d, 0x3E]
  | .srl_mIXd_A d => [0xDD, 0xCB, d, 0x3F]
  | .bit_0_mIXd_z0 d => [0xDD, 0xCB, d, 0x40]
  | .bit_0_mIXd_z1 d => [0xDD, 0xCB, d, 0x41]
  | .bit_0_mIXd_z2 d => [0xDD, 0xCB, d, 0x42]
  | .bit_0_mIXd_z3 d => [0xDD, 0xCB, d, 0x43]
  | .bit_0_mIXd_z4 d => [0xDD, 0xCB, d, 0x44]
  | .bit_0_mIXd_z5 d => [0xDD, 0xCB, d, 0x45]
  | .bit_0_mIXd_z6 d => [0xDD, 0xCB, d, 0x46]
  | .bit_0_mIXd_z7 d => [0xDD, 0xCB, d, 0x47]
  | .bit_1_mIXd_z0 d => [0xDD, 0xCB, d, 0x48]
  | .bit_1_mIXd_z1 d => [0xDD, 0xCB, d, 0x49]
  | .bit_1_mIXd_z2 d => [0xDD, 0xCB, d, 0x4A]
  | .bit_1_mIXd_z3 d => [0xDD, 0xCB, d, 0x4B]
  | .bit_1_mIXd_z4 d => [0xDD, 0xCB, d, 0x4C]
  | .bit_1_mIXd_z5 d => [0xDD, 0xCB, d, 0x4D]
  | .bit_1_mIXd_z6 d => [0xDD, 0xCB, d, 0x4E]
  | .bit_1_mIXd_z7 d => [0xDD, 0xCB, d, 0x4F]
  | .bit_2_mIXd_z0 d => [0xDD, 0xCB, d, 0x50]
  | .bit_2_mIXd_z1 d => [0xDD, 0xCB, d, 0x51]
  | .bit_2_mIXd_z2 d => [0xDD, 0xCB, d, 0x52]
  | .bit_2_mIXd_z3 d => [0xDD, 0xCB, d, 0x53]
  | .bit_2_mIXd_z4 d => [0xDD, 0xCB, d, 0x54]
  | .bit_2_mIXd_z5 d => [0xDD, 0xCB, d, 0x55]
  | .bit_2_mIXd_z6 d => [0xDD, 0xCB, d, 0x56]
  | .bit_2_mIXd_z7 d => [0xDD, 0xCB, d, 0x57]
  | .bit_3_mIXd_z0 d => [0xDD, 0xCB, d, 0x58]
  | .bit_3_mIXd_z1 d => [0xDD, 0xCB, d, 0x59]
  | .bit_3_mIXd_z2 d => [0xDD, 0xCB, d, 0x5A]
  | .bit_3_mIXd_z3 d => [0xDD, 0xCB, d, 0x5B]
  | .bit_3_mIXd_z4 d => [0xDD, 0xCB, d, 0x5C]
  | .bit_3_mIXd_z5 d => [0xDD, 0xCB, d, 0x5D]
  | .bit_3_mIXd_z6 d => [0xDD, 0xCB, d, 0x5E]
  | .bit_3_mIXd_z7 d => [0xDD, 0xCB, d, 0x5F]
  | .bit_4_mIXd_z0 d => [0xDD, 0xCB, d, 0x60]
  | .bit_4_mIXd_z1 d => [0xDD, 0xCB, d, 0x61]
  | .bit_4_mIXd_z2 d => [0xDD, 0xCB, d, 0x62]
  | .bit_4_mIXd_z3 d => [0xDD, 0xCB, d, 0x63]
  | .bit_4_mIXd_z4 d => [0xDD, 0xCB, d, 0x64]
  | .bit_4_mIXd_z5 d => [0xDD, 0xCB, d, 0x65]
  | .bit_4_mIXd_z6 d => [0xDD, 0xCB, d, 0x66]
  | .bit_4_mIXd_z7 d => [0xDD, 0xCB, d, 0x67]
  | .bit_5_mIXd_z0 d => [0xDD, 0xCB, d, 0x68]
  | .bit_5_mIXd_z1 d => [0xDD, 0xCB, d, 0x69]
  | .bit_5_mIXd_z2 d => [0xDD, 0xCB, d, 0x6A]
  | .bit_5_mIXd_z3 d => [0xDD, 0xCB, d, 0x6B]
  | .bit_5_mIXd_z4 d => [0xDD, 0xCB, d, 0x6C]
  | .bit_5_mIXd_z5 d => [0xDD, 0xCB, d, 0x6D]
  | .bit_5_mIXd_z6 d => [0xDD, 0xCB, d, 0x6E]
  | .bit_5_mIXd_z7 d => [0xDD, 0xCB, d, 0x6F]
  | .bit_6_mIXd_z0 d => [0xDD, 0xCB, d, 0x70]
  | .bit_6_mIXd_z1 d => [0xDD, 0xCB, d, 0x71]
  | .bit_6_mIXd_z2 d => [0xDD, 0xCB, d, 0x72]
  | .bit_6_mIXd_z3 d => [0xDD, 0xCB, d, 0x73]
  | .bit_6_mIXd_z4 d => [0xDD, 0xCB, d, 0x74]
  | .bit_6_mIXd_z5 d => [0xDD, 0xCB, d, 0x75]
  | .bit_6_mIXd_z6 d => [0xDD, 0xCB, d, 0x76]
  | .bit_6_mIXd_z7 d => [0xDD, 0xCB, d, 0x77]
  | .bit_7_mIXd_z0 d => [0xDD, 0xCB, d, 0x78]
  | .bit_7_mIXd_z1 d => [0xDD, 0xCB, d, 0x79]
  | .bit_7_mIXd_z2 d => [0xDD, 0xCB, d, 0x7A]
  | .bit_7_mIXd_z3 d => [0xDD, 0xCB, d, 0x7B]
  | .bit_7_mIXd_z4 d => [0xDD, 0xCB, d, 0x7C]
  | .bit_7_mIXd_z5 d => [0xDD, 0xCB, d, 0x7D]
  | .bit_7_mIXd_z6 d => [0xDD, 0xCB, d, 0x7E]
  | .bit_7_mIXd_z7 d => [0xDD, 0xCB, d, 0x7F]
  | .res_0_mIXd_B d => [0xDD, 0xCB, d, 0x80]
  | .res_0_mIXd_C d => [0xDD, 0xCB, d, 0x81]
  | .res_0_mIXd_D d => [0xDD, 0xCB, d, 0x82]
  | .res_0_mIXd_E d => [0xDD, 0xCB, d, 0x83]
  | .res_0_mIXd_H d => [0xDD, 0xCB, d, 0x84]
  | .res_0_mIXd_L d => [0xDD, 0xCB, d, 0x85]
  | .res_0_mIXd d => [0xDD, 0xCB, d, 0x86]
  | .res_0_mIXd_A d => [0xDD, 0xCB, d, 0x87]
  | .res_1_mIXd_B d => [0xDD, 0xCB, d, 0x88]
  | .res_1_mIXd_C d => [0xDD, 0xCB, d, 0x89]
  | .res_1_mIXd_D d => [0xDD, 0xCB, d, 0x8A]
  | .res_1_mIXd_E d => [0xDD, 0xCB, d, 0x8B]
  | .res_1_mIXd_H d => [0xDD, 0xCB, d, 0x8C]
  | .res_1_mIXd_L d => [0xDD, 0xCB, d, 0x8D]
  | .res_1_mIXd d => [0xDD, 0xCB, d, 0x8E]
  | .res_1_mIXd_A d => [0xDD, 0xCB, d, 0x8F]
  | .res_2_mIXd_B d => [0xDD, 0xCB, d, 0x90]
  | .res_2_mIXd_C d => [0xDD, 0xCB, d, 0x91]
  | .res_2_mIXd_D d => [0xDD, 0xCB, d, 0x92]
  | .res_2_mIXd_E d => [0xDD, 0xCB, d, 0x93]
  | .res_2_mIXd_H d => [0xDD, 0xCB, d, 0x94]
  | .res_2_mIXd_L d => [0xDD, 0xCB, d, 0x95]
  | .res_2_mIXd d => [0xDD, 0xCB, d, 0x96]
  | .res_2_mIXd_A d => [0xDD, 0xCB, d, 0x97]
  | .res_3_mIXd_B d => [0xDD, 0xCB, d, 0x98]
  | .res_3_mIXd_C d => [0xDD, 0xCB, d, 0x99]
  | .res_3_mIXd_D d => [0xDD, 0xCB, d, 0x9A]
  | .res_3_mIXd_E d => [0xDD, 0xCB, d, 0x9B]
  | .res_3_mIXd_H d => [0xDD, 0xCB, d, 0x9C]
  | .res_3_mIXd_L d => [0xDD, 0xCB, d, 0x9D]
  | .res_3_mIXd d => [0xDD, 0xCB, d, 0x9E]
  | .res_3_mIXd_A d => [0xDD, 0xCB, d, 0x9F]
  | .res_4_mIXd_B d => [0xDD, 0xCB, d, 0xA0]
  | .res_4_mIXd_C d => [0xDD, 0xCB, d, 0xA1]
  | .res_4_mIXd_D d => [0xDD, 0xCB, d, 0xA2]
  | .res_4_mIXd_E d => [0xDD, 0xCB, d, 0xA3]
  | .res_4_mIXd_H d => [0xDD, 0xCB, d, 0xA4]
  | .res_4_mIXd_L d => [0xDD, 0xCB, d, 0xA5]
  | .res_4_mIXd d => [0xDD, 0xCB, d, 0xA6]
  | .res_4_mIXd_A d => [0xDD, 0xCB, d, 0xA7]
  | .res_5_mIXd_B d => [0xDD, 0xCB, d, 0xA8]
  | .res_5_mIXd_C d => [0xDD, 0xCB, d, 0xA9]
  | .res_5_mIXd_D d => [0xDD, 0xCB, d, 0xAA]
  | .res_5_mIXd_E d => [0xDD, 0xCB, d, 0xAB]
  | .res_5_mIXd_H d => [0xDD, 0xCB, d, 0xAC]
  | .res_5_mIXd_L d => [0xDD, 0xCB, d, 0xAD]
  | .res_5_mIXd d => [0xDD, 0xCB, d, 0xAE]
  | .res_5_mIXd_A d => [0xDD, 0xCB, d, 0xAF]
  | .res_6_mIXd_B d => [0xDD, 0xCB, d, 0xB0]
  | .res_6_mIXd_C d => [0xDD, 0xCB, d, 0xB1]
  | .res_6_mIXd_D d => [0xDD, 0xCB, d, 0xB2]
  | .res_6_mIXd_E d => [0xDD, 0xCB, d, 0xB3]
  | .res_6_mIXd_H d => [0xDD, 0xCB, d, 0xB4]
  | .res_6_mIXd_L d => [0xDD, 0xCB, d, 0xB5]
  | .res_6_mIXd d => [0xDD, 0xCB, d, 0xB6]
  | .res_6_mIXd_A d => [0xDD, 0xCB, d, 0xB7]
  | .res_7_mIXd_B d => [0xDD, 0xCB, d, 0xB8]
  | .res_7_mIXd_C d => [0xDD, 0xCB, d, 0xB9]
  | .res_7_mIXd_D d => [0xDD, 0xCB, d, 0xBA]
  | .res_7_mIXd_E d => [0xDD, 0xCB, d, 0xBB]
  | .res_7_mIXd_H d => [0xDD, 0xCB, d, 0xBC]
  | .res_7_mIXd_L d => [0xDD, 0xCB, d, 0xBD]
  | .res_7_mIXd d => [0xDD, 0xCB, d, 0xBE]
  | .res_7_mIXd_A d => [0xDD, 0xCB, d, 0xBF]
  | .set_0_mIXd_B d => [0xDD, 0xCB, d, 0xC0]
  | .set_0_mIXd_C d => [0xDD, 0xCB, d, 0xC1]
  | .set_0_mIXd_D d => [0xDD, 0xCB, d, 0xC2]
  | .set_0_mIXd_E d => [0xDD, 0xCB, d, 0xC3]
  | .set_0_mIXd_H d => [0xDD, 0xCB, d, 0xC4]
  | .set_0_mIXd_L d => [0xDD, 0xCB, d, 0xC5]
  | .set_0_mIXd d => [0xDD, 0xCB, d, 0xC6]
  | .set_0_mIXd_A d => [0xDD, 0xCB, d, 0xC7]
  | .set_1_mIXd_B d => [0xDD, 0xCB, d, 0xC8]
  | .set_1_mIXd_C d => [0xDD, 0xCB, d, 0xC9]
  | .set_1_mIXd_D d => [0xDD, 0xCB, d, 0xCA]
  | .set_1_mIXd_E d => [0xDD, 0xCB, d, 0xCB]
  | .set_1_mIXd_H d => [0xDD, 0xCB, d, 0xCC]
  | .set_1_mIXd_L d => [0xDD, 0xCB, d, 0xCD]
  | .set_1_mIXd d => [0xDD, 0xCB, d, 0xCE]
  | .set_1_mIXd_A d => [0xDD, 0xCB, d, 0xCF]
  | .set_2_mIXd_B d => [0xDD, 0xCB, d, 0xD0]
  | .set_2_mIXd_C d => [0xDD, 0xCB, d, 0xD1]
  | .set_2_mIXd_D d => [0xDD, 0xCB, d, 0xD2]
  | .set_2_mIXd_E d => [0xDD, 0xCB, d, 0xD3]
  | .set_2_mIXd_H d => [0xDD, 0xCB, d, 0xD4]
  | .set_2_mIXd_L d => [0xDD, 0xCB, d, 0xD5]
  | .set_2_mIXd d => [0xDD, 0xCB, d, 0xD6]
  | .set_2_mIXd_A d => [0xDD, 0xCB, d, 0xD7]
  | .set_3_mIXd_B d => [0xDD, 0xCB, d, 0xD8]
  | .set_3_mIXd_C d => [0xDD, 0xCB, d, 0xD9]
  | .set_3_mIXd_D d => [0xDD, 0xCB, d, 0xDA]
  | .set_3_mIXd_E d => [0xDD, 0xCB, d, 0xDB]
  | .set_3_mIXd_H d => [0xDD, 0xCB, d, 0xDC]
  | .set_3_mIXd_L d => [0xDD, 0xCB, d, 0xDD]
  | .set_3_mIXd d => [0xDD, 0xCB, d, 0xDE]
  | .set_3_mIXd_A d => [0xDD, 0xCB, d, 0xDF]
  | .set_4_mIXd_B d => [0xDD, 0xCB, d, 0xE0]
  | .set_4_mIXd_C d => [0xDD, 0xCB, d, 0xE1]
  | .set_4_mIXd_D d => [0xDD, 0xCB, d, 0xE2]
  | .set_4_mIXd_E d => [0xDD, 0xCB, d, 0xE3]
  | .set_4_mIXd_H d => [0xDD, 0xCB, d, 0xE4]
  | .set_4_mIXd_L d => [0xDD, 0xCB, d, 0xE5]
  | .set_4_mIXd d => [0xDD, 0xCB, d, 0xE6]
  | .set_4_mIXd_A d => [0xDD, 0xCB, d, 0xE7]
  | .set_5_mIXd_B d => [0xDD, 0xCB, d, 0xE8]
  | .set_5_mIXd_C d => [0xDD, 0xCB, d, 0xE9]
  | .set_5_mIXd_D d => [0xDD, 0xCB, d, 0xEA]
  | .set_5_mIXd_E d => [0xDD, 0xCB, d, 0xEB]
  | .set_5_mIXd_H d => [0xDD, 0xCB, d, 0xEC]
  | .set_5_mIXd_L d => [0xDD, 0xCB, d, 0xED]
  | .set_5_mIXd d => [0xDD, 0xCB, d, 0xEE]
  | .set_5_mIXd_A d => [0xDD, 0xCB, d, 0xEF]
  | .set_6_mIXd_B d => [0xDD, 0xCB, d, 0xF0]
  | .set_6_mIXd_C d => [0xDD, 0xCB, d, 0xF1]
  | .set_6_mIXd_D d => [0xDD, 0xCB, d, 0xF2]
  | .set_6_mIXd_E d => [0xDD, 0xCB, d, 0xF3]
  | .set_6_mIXd_H d => [0xDD, 0xCB, d, 0xF4]
  | .set_6_mIXd_L d => [0xDD, 0xCB, d, 0xF5]
  | .set_6_mIXd d => [0xDD, 0xCB, d, 0xF6]
  | .set_6_mIXd_A d => [0xDD, 0xCB, d, 0xF7]
  | .set_7_mIXd_B d => [0xDD, 0xCB, d, 0xF8]
  | .set_7_mIXd_C d => [0xDD, 0xCB, d, 0xF9]
  | .set_7_mIXd_D d => [0xDD, 0xCB, d, 0xFA]
  | .set_7_mIXd_E d => [0xDD, 0xCB, d, 0xFB]
  | .set_7_mIXd_H d => [0xDD, 0xCB, d, 0xFC]
  | .set_7_mIXd_L d => [0xDD, 0xCB, d, 0xFD]
  | .set_7_mIXd d => [0xDD, 0xCB, d, 0xFE]
  | .set_7_mIXd_A d => [0xDD, 0xCB, d, 0xFF]
  | .add_IY_BC => [0xFD, 0x09]
  | .add_IY_DE => [0xFD, 0x19]
  | .ld_IY_nn nn => [0xFD, 0x21, Machine.lo nn, Machine.hi nn]
  | .ld_mnn_IY nn => [0xFD, 0x22, Machine.lo nn, Machine.hi nn]
  | .inc_IY => [0xFD, 0x23]
  | .inc_IYH => [0xFD, 0x24]
  | .dec_IYH => [0xFD, 0x25]
  | .ld_IYH_n n => [0xFD, 0x26, n]
  | .add_IY_IY => [0xFD, 0x29]
  | .ld_IY_mnn nn => [0xFD, 0x2A, Machine.lo nn, Machine.hi nn]
  | .dec_IY => [0xFD, 0x2B]
  | .inc_IYL => [0xFD, 0x2C]
  | .dec_IYL => [0xFD, 0x2D]
  | .ld_IYL_n n => [0xFD, 0x2E, n]
  | .inc_mIYd d => [0xFD, 0x34, d]
  | .dec_mIYd d => [0xFD, 0x35, d]
  | .ld_mIYd_n d n => [0xFD, 0x36, d, n]
  | .add_IY_SP => [0xFD, 0x39]
  | .ld_B_IYH => [0xFD, 0x44]
  | .ld_B_IYL => [0xFD, 0x45]
  | .ld_B_mIYd d => [0xFD, 0x46, d]
  | .ld_C_IYH => [0xFD, 0x4C]
  | .ld_C_IYL => [0xFD, 0x4D]
  | .ld_C_mIYd d => [0xFD, 0x4E, d]
  | .ld_D_IYH => [0xFD, 0x54]
  | .ld_D_IYL => [0xFD, 0x55]
  | .ld_D_mIYd d => [0xFD, 0x56, d]
  | .ld_E_IYH => [0xFD, 0x5C]
  | .ld_E_IYL => [0xFD, 0x5D]
  | .ld_E_mIYd d => [0xFD, 0x5E, d]
  | .ld_IYH_B => [0xFD, 0x60]
  | .ld_IYH_C => [0xFD, 0x61]
  | .ld_IYH_D => [0xFD, 0x62]
  | .ld_IYH_E => [0xFD, 0x63]
  | .ld_IYH_IYH => [0xFD, 0x64]
  | .ld_IYH_IYL => [0xFD, 0x65]
  | .ld_H_mIYd d => [0xFD, 0x66, d]
  | .ld_IYH_A => [0xFD, 0x67]
  | .ld_IYL_B => [0xFD, 0x68]
  | .ld_IYL_C => [0xFD, 0x69]
  | .ld_IYL_D => [0xFD, 0x6A]
  | .ld_IYL_E => [0xFD, 0x6B]
  | .ld_IYL_IYH => [0xFD, 0x6C]
  | .ld_IYL_IYL => [0xFD, 0x6D]
  | .ld_L_mIYd d => [0xFD, 0x6E, d]
  | .ld_IYL_A => [0xFD, 0x6F]
  | .ld_mIYd_B d => [0xFD, 0x70, d]
  | .ld_mIYd_C d => [0xFD, 0x71, d]
  | .ld_mIYd_D d => [0xFD, 0x72, d]
  | .ld_mIYd_E d => [0xFD, 0x73, d]
  | .ld_mIYd_H d => [0xFD, 0x74, d]
  | .ld_mIYd_L d => [0xFD, 0x75, d]
  | .ld_mIYd_A d => [0xFD, 0x77, d]
  | .ld_A_IYH => [0xFD, 0x7C]
  | .ld_A_IYL => [0xFD, 0x7D]
  | .ld_A_mIYd d => [0xFD, 0x7E, d]
  | .add_A_IYH => [0xFD, 0x84]
  | .add_A_IYL => [0xFD, 0x85]
  | .add_A_mIYd d => [0xFD, 0x86, d]
  | .adc_A_IYH => [0xFD, 0x8C]
  | .adc_A_IYL => [0xFD, 0x8D]
  | .adc_A_mIYd d => [0xFD, 0x8E, d]
  | .sub_IYH => [0xFD, 0x94]
  | .sub_IYL => [0xFD, 0x95]
  | .sub_mIYd d => [0xFD, 0x96, d]
  | .sbc_A_IYH => [0xFD, 0x9C]
  | .sbc_A_IYL => [0xFD, 0x9D]
  | .sbc_A_mIYd d => [0xFD, 0x9E, d]
  | .and_IYH => [0xFD, 0xA4]
  | .and_IYL => [0xFD, 0xA5]
  | .and_mIYd d => [0xFD, 0xA6, d]
  | .xor_IYH => [0xFD, 0xAC]
  | .xor_IYL => [0xFD, 0xAD]
  | .xor_mIYd d => [0xFD, 0xAE, d]
  | .or_IYH => [0xFD, 0xB4]
  | .or_IYL => [0xFD, 0xB5]
  | .or_mIYd d => [0xFD, 0xB6, d]
  | .cp_IYH => [0xFD, 0xBC]
  | .cp_IYL => [0xFD, 0xBD]
  | .cp_mIYd d => [0xFD, 0xBE, d]
  | .pop_IY => [0xFD, 0xE1]
  | .ex_mSP_IY => [0xFD, 0xE3]
  | .push_IY => [0xFD, 0xE5]
  | .jp_mIY => [0xFD, 0xE9]
  | .ld_SP_IY => [0xFD, 0xF9]
  | .rlc_mIYd_B d => [0xFD, 0xCB, d, 0x00]
  | .rlc_mIYd_C d => [0xFD, 0xCB, d, 0x01]
  | .rlc_mIYd_D d => [0xFD, 0xCB, d, 0x02]
  | .rlc_mIYd_E d => [0xFD, 0xCB, d, 0x03]
  | .rlc_mIYd_H d => [0xFD, 0xCB, d, 0x04]
  | .rlc_mIYd_L d => [0xFD, 0xCB, d, 0x05]
  | .rlc_mIYd d => [0xFD, 0xCB, d, 0x06]
  | .rlc_mIYd_A d => [0xFD, 0xCB, d, 0x07]
  | .rrc_mIYd_B d => [0xFD, 0xCB, d, 0x08]
  | .rrc_mIYd_C d => [0xFD, 0xCB, d, 0x09]
  | .rrc_mIYd_D d => [0xFD, 0xCB, d, 0x0A]
  | .rrc_mIYd_E d => [0xFD, 0xCB, d, 0x0B]
  | .rrc_mIYd_H d => [0xFD, 0xCB, d, 0x0C]
  | .rrc_mIYd_L d => [0xFD, 0xCB, d, 0x0D]
  | .rrc_mIYd d => [0xFD, 0xCB, d, 0x0E]
  | .rrc_mIYd_A d => [0xFD, 0xCB, d, 0x0F]
  | .rl_mIYd_B d => [0xFD, 0xCB, d, 0x10]
  | .rl_mIYd_C d => [0xFD, 0xCB, d, 0x11]
  | .rl_mIYd_D d => [0xFD, 0xCB, d, 0x12]
  | .rl_mIYd_E d => [0xFD, 0xCB, d, 0x13]
  | .rl_mIYd_H d => [0xFD, 0xCB, d, 0x14]
  | .rl_mIYd_L d => [0xFD, 0xCB, d, 0x15]
  | .rl_mIYd d => [0xFD, 0xCB, d, 0x16]
  | .rl_mIYd_A d => [0xFD, 0xCB, d, 0x17]
  | .rr_mIYd_B d => [0xFD, 0xCB, d, 0x18]
  | .rr_mIYd_C d => [0xFD, 0xCB, d, 0x19]
  | .rr_mIYd_D d => [0xFD, 0xCB, d, 0x1A]
  | .rr_mIYd_E d => [0xFD, 0xCB, d, 0x1B]
  | .rr_mIYd_H d => [0xFD, 0xCB, d, 0x1C]
  | .rr_mIYd_L d => [0xFD, 0xCB, d, 0x1D]
  | .rr_mIYd d => [0xFD, 0xCB, d, 0x1E]
  | .rr_mIYd_A d => [0xFD, 0xCB, d, 0x1F]
  | .sla_mIYd_B d => [0xFD, 0xCB, d, 0x20]
  | .sla_mIYd_C d => [0xFD, 0xCB, d, 0x21]
  | .sla_mIYd_D d => [0xFD, 0xCB, d, 0x22]
  | .sla_mIYd_E d => [0xFD, 0xCB, d, 0x23]
  | .sla_mIYd_H d => [0xFD, 0xCB, d, 0x24]
  | .sla_mIYd_L d => [0xFD, 0xCB, d, 0x25]
  | .sla_mIYd d => [0xFD, 0xCB, d, 0x26]
  | .sla_mIYd_A d => [0xFD, 0xCB, d, 0x27]
  | .sra_mIYd_B d => [0xFD, 0xCB, d, 0x28]
  | .sra_mIYd_C d => [0xFD, 0xCB, d, 0x29]
  | .sra_mIYd_D d => [0xFD, 0xCB, d, 0x2A]
  | .sra_mIYd_E d => [0xFD, 0xCB, d, 0x2B]
  | .sra_mIYd_H d => [0xFD, 0xCB, d, 0x2C]
  | .sra_mIYd_L d => [0xFD, 0xCB, d, 0x2D]
  | .sra_mIYd d => [0xFD, 0xCB, d, 0x2E]
  | .sra_mIYd_A d => [0xFD, 0xCB, d, 0x2F]
  | .sll_mIYd_B d => [0xFD, 0xCB, d, 0x30]
  | .sll_mIYd_C d => [0xFD, 0xCB, d, 0x31]
  | .sll_mIYd_D d => [0xFD, 0xCB, d, 0x32]
  | .sll_mIYd_E d => [0xFD, 0xCB, d, 0x33]
  | .sll_mIYd_H d => [0xFD, 0xCB, d, 0x34]
  | .sll_mIYd_L d => [0xFD, 0xCB, d, 0x35]
  | .sll_mIYd d => [0xFD, 0xCB, d, 0x36]
  | .sll_mIYd_A d => [0xFD, 0xCB, d, 0x37]
  | .srl_mIYd_B d => [0xFD, 0xCB, d, 0x38]
  | .srl_mIYd_C d => [0xFD, 0xCB, d, 0x39]
  | .srl_mIYd_D d => [0xFD, 0xCB, d, 0x3A]
  | .srl_mIYd_E d => [0xFD, 0xCB, d, 0x3B]
  | .srl_mIYd_H d => [0xFD, 0xCB, d, 0x3C]
  | .srl_mIYd_L d => [0xFD, 0xCB, d, 0x3D]
  | .srl_mIYd d => [0xFD, 0xCB, d, 0x3E]
  | .srl_mIYd_A d => [0xFD, 0xCB, d, 0x3F]
  | .bit_0_mIYd_z0 d => [0xFD, 0xCB, d, 0x40]
  | .bit_0_mIYd_z1 d => [0xFD, 0xCB, d, 0x41]
  | .bit_0_mIYd_z2 d => [0xFD, 0xCB, d, 0x42]
  | .bit_0_mIYd_z3 d => [0xFD, 0xCB, d, 0x43]
  | .bit_0_mIYd_z4 d => [0xFD, 0xCB, d, 0x44]
  | .bit_0_mIYd_z5 d => [0xFD, 0xCB, d, 0x45]
  | .bit_0_mIYd_z6 d => [0xFD, 0xCB, d, 0x46]
  | .bit_0_mIYd_z7 d => [0xFD, 0xCB, d, 0x47]
  | .bit_1_mIYd_z0 d => [0xFD, 0xCB, d, 0x48]
  | .bit_1_mIYd_z1 d => [0xFD, 0xCB, d, 0x49]
  | .bit_1_mIYd_z2 d => [0xFD, 0xCB, d, 0x4A]
  | .bit_1_mIYd_z3 d => [0xFD, 0xCB, d, 0x4B]
  | .bit_1_mIYd_z4 d => [0xFD, 0xCB, d, 0x4C]
  | .bit_1_mIYd_z5 d => [0xFD, 0xCB, d, 0x4D]
  | .bit_1_mIYd_z6 d => [0xFD, 0xCB, d, 0x4E]
  | .bit_1_mIYd_z7 d => [0xFD, 0xCB, d, 0x4F]
  | .bit_2_mIYd_z0 d => [0xFD, 0xCB, d, 0x50]
  | .bit_2_mIYd_z1 d => [0xFD, 0xCB, d, 0x51]
  | .bit_2_mIYd_z2 d => [0xFD, 0xCB, d, 0x52]
  | .bit_2_mIYd_z3 d => [0xFD, 0xCB, d, 0x53]
  | .bit_2_mIYd_z4 d => [0xFD, 0xCB, d, 0x54]
  | .bit_2_mIYd_z5 d => [0xFD, 0xCB, d, 0x55]
  | .bit_2_mIYd_z6 d => [0xFD, 0xCB, d, 0x56]
  | .bit_2_mIYd_z7 d => [0xFD, 0xCB, d, 0x57]
  | .bit_3_mIYd_z0 d => [0xFD, 0xCB, d, 0x58]
  | .bit_3_mIYd_z1 d => [0xFD, 0xCB, d, 0x59]
  | .bit_3_mIYd_z2 d => [0xFD, 0xCB, d, 0x5A]
  | .bit_3_mIYd_z3 d => [0xFD, 0xCB, d, 0x5B]
  | .bit_3_mIYd_z4 d => [0xFD, 0xCB, d, 0x5C]
  | .bit_3_mIYd_z5 d => [0xFD, 0xCB, d, 0x5D]
  | .bit_3_mIYd_z6 d => [0xFD, 0xCB, d, 0x5E]
  | .bit_3_mIYd_z7 d => [0xFD, 0xCB, d, 0x5F]
  | .bit_4_mIYd_z0 d => [0xFD, 0xCB, d, 0x60]
  | .bit_4_mIYd_z1 d => [0xFD, 0xCB, d, 0x61]
  | .bit_4_mIYd_z2 d => [0xFD, 0xCB, d, 0x62]
  | .bit_4_mIYd_z3 d => [0xFD, 0xCB, d, 0x63]
  | .bit_4_mIYd_z4 d => [0xFD, 0xCB, d, 0x64]
  | .bit_4_mIYd_z5 d => [0xFD, 0xCB, d, 0x65]
  | .bit_4_mIYd_z6 d => [0xFD, 0xCB, d, 0x66]
  | .bit_4_mIYd_z7 d => [0xFD, 0xCB, d, 0x67]
  | .bit_5_mIYd_z0 d => [0xFD, 0xCB, d, 0x68]
  | .bit_5_mIYd_z1 d => [0xFD, 0xCB, d, 0x69]
  | .bit_5_mIYd_z2 d => [0xFD, 0xCB, d, 0x6A]
  | .bit_5_mIYd_z3 d => [0xFD, 0xCB, d, 0x6B]
  | .bit_5_mIYd_z4 d => [0xFD, 0xCB, d, 0x6C]
  | .bit_5_mIYd_z5 d => [0xFD, 0xCB, d, 0x6D]
  | .bit_5_mIYd_z6 d => [0xFD, 0xCB, d, 0x6E]
  | .bit_5_mIYd_z7 d => [0xFD, 0xCB, d, 0x6F]
  | .bit_6_mIYd_z0 d => [0xFD, 0xCB, d, 0x70]
  | .bit_6_mIYd_z1 d => [0xFD, 0xCB, d, 0x71]
  | .bit_6_mIYd_z2 d => [0xFD, 0xCB, d, 0x72]
  | .bit_6_mIYd_z3 d => [0xFD, 0xCB, d, 0x73]
  | .bit_6_mIYd_z4 d => [0xFD, 0xCB, d, 0x74]
  | .bit_6_mIYd_z5 d => [0xFD, 0xCB, d, 0x75]
  | .bit_6_mIYd_z6 d => [0xFD, 0xCB, d, 0x76]
  | .bit_6_mIYd_z7 d => [0xFD, 0xCB, d, 0x77]
  | .bit_7_mIYd_z0 d => [0xFD, 0xCB, d, 0x78]
  | .bit_7_mIYd_z1 d => [0xFD, 0xCB, d, 0x79]
  | .bit_7_mIYd_z2 d => [0xFD, 0xCB, d, 0x7A]
  | .bit_7_mIYd_z3 d => [0xFD, 0xCB, d, 0x7B]
  | .bit_7_mIYd_z4 d => [0xFD, 0xCB, d, 0x7C]
  | .bit_7_mIYd_z5 d => [0xFD, 0xCB, d, 0x7D]
  | .bit_7_mIYd_z6 d => [0xFD, 0xCB, d, 0x7E]
  | .bit_7_mIYd_z7 d => [0xFD, 0xCB, d, 0x7F]
  | .res_0_mIYd_B d => [0xFD, 0xCB, d, 0x80]
  | .res_0_mIYd_C d => [0xFD, 0xCB, d, 0x81]
  | .res_0_mIYd_D d => [0xFD, 0xCB, d, 0x82]
  | .res_0_mIYd_E d => [0xFD, 0xCB, d, 0x83]
  | .res_0_mIYd_H d => [0xFD, 0xCB, d, 0x84]
  | .res_0_mIYd_L d => [0xFD, 0xCB, d, 0x85]
  | .res_0_mIYd d => [0xFD, 0xCB, d, 0x86]
  | .res_0_mIYd_A d => [0xFD, 0xCB, d, 0x87]
  | .res_1_mIYd_B d => [0xFD, 0xCB, d, 0x88]
  | .res_1_mIYd_C d => [0xFD, 0xCB, d, 0x89]
  | .res_1_mIYd_D d => [0xFD, 0xCB, d, 0x8A]
  | .res_1_mIYd_E d => [0xFD, 0xCB, d, 0x8B]
  | .res_1_mIYd_H d => [0xFD, 0xCB, d, 0x8C]
  | .res_1_mIYd_L d => [0xFD, 0xCB, d, 0x8D]
  | .res_1_mIYd d => [0xFD, 0xCB, d, 0x8E]
  | .res_1_mIYd_A d => [0xFD, 0xCB, d, 0x8F]
  | .res_2_mIYd_B d => [0xFD, 0xCB, d, 0x90]
  | .res_2_mIYd_C d => [0xFD, 0xCB, d, 0x91]
  | .res_2_mIYd_D d => [0xFD, 0xCB, d, 0x92]
  | .res_2_mIYd_E d => [0xFD, 0xCB, d, 0x93]
  | .res_2_mIYd_H d => [0xFD, 0xCB, d, 0x94]
  | .res_2_mIYd_L d => [0xFD, 0xCB, d, 0x95]
  | .res_2_mIYd d => [0xFD, 0xCB, d, 0x96]
  | .res_2_mIYd_A d => [0xFD, 0xCB, d, 0x97]
  | .res_3_mIYd_B d => [0xFD, 0xCB, d, 0x98]
  | .res_3_mIYd_C d => [0xFD, 0xCB, d, 0x99]
  | .res_3_mIYd_D d => [0xFD, 0xCB, d, 0x9A]
  | .res_3_mIYd_E d => [0xFD, 0xCB, d, 0x9B]
  | .res_3_mIYd_H d => [0xFD, 0xCB, d, 0x9C]
  | .res_3_mIYd_L d => [0xFD, 0xCB, d, 0x9D]
  | .res_3_mIYd d => [0xFD, 0xCB, d, 0x9E]
  | .res_3_mIYd_A d => [0xFD, 0xCB, d, 0x9F]
  | .res_4_mIYd_B d => [0xFD, 0xCB, d, 0xA0]
  | .res_4_mIYd_C d => [0xFD, 0xCB, d, 0xA1]
  | .res_4_mIYd_D d => [0xFD, 0xCB, d, 0xA2]
  | .res_4_mIYd_E d => [0xFD, 0xCB, d, 0xA3]
  | .res_4_mIYd_H d => [0xFD, 0xCB, d, 0xA4]
  | .res_4_mIYd_L d => [0xFD, 0xCB, d, 0xA5]
  | .res_4_mIYd d => [0xFD, 0xCB, d, 0xA6]
  | .res_4_mIYd_A d => [0xFD, 0xCB, d, 0xA7]
  | .res_5_mIYd_B d => [0xFD, 0xCB, d, 0xA8]
  | .res_5_mIYd_C d => [0xFD, 0xCB, d, 0xA9]
  | .res_5_mIYd_D d => [0xFD, 0xCB, d, 0xAA]
  | .res_5_mIYd_E d => [0xFD, 0xCB, d, 0xAB]
  | .res_5_mIYd_H d => [0xFD, 0xCB, d, 0xAC]
  | .res_5_mIYd_L d => [0xFD, 0xCB, d, 0xAD]
  | .res_5_mIYd d => [0xFD, 0xCB, d, 0xAE]
  | .res_5_mIYd_A d => [0xFD, 0xCB, d, 0xAF]
  | .res_6_mIYd_B d => [0xFD, 0xCB, d, 0xB0]
  | .res_6_mIYd_C d => [0xFD, 0xCB, d, 0xB1]
  | .res_6_mIYd_D d => [0xFD, 0xCB, d, 0xB2]
  | .res_6_mIYd_E d => [0xFD, 0xCB, d, 0xB3]
  | .res_6_mIYd_H d => [0xFD, 0xCB, d, 0xB4]
  | .res_6_mIYd_L d => [0xFD, 0xCB, d, 0xB5]
  | .res_6_mIYd d => [0xFD, 0xCB, d, 0xB6]
  | .res_6_mIYd_A d => [0xFD, 0xCB, d, 0xB7]
  | .res_7_mIYd_B d => [0xFD, 0xCB, d, 0xB8]
  | .res_7_mIYd_C d => [0xFD, 0xCB, d, 0xB9]
  | .res_7_mIYd_D d => [0xFD, 0xCB, d, 0xBA]
  | .res_7_mIYd_E d => [0xFD, 0xCB, d, 0xBB]
  | .res_7_mIYd_H d => [0xFD, 0xCB, d, 0xBC]
  | .res_7_mIYd_L d => [0xFD, 0xCB, d, 0xBD]
  | .res_7_mIYd d => [0xFD, 0xCB, d, 0xBE]
  | .res_7_mIYd_A d => [0xFD, 0xCB, d, 0xBF]
  | .set_0_mIYd_B d => [0xFD, 0xCB, d, 0xC0]
  | .set_0_mIYd_C d => [0xFD, 0xCB, d, 0xC1]
  | .set_0_mIYd_D d => [0xFD, 0xCB, d, 0xC2]
  | .set_0_mIYd_E d => [0xFD, 0xCB, d, 0xC3]
  | .set_0_mIYd_H d => [0xFD, 0xCB, d, 0xC4]
  | .set_0_mIYd_L d => [0xFD, 0xCB, d, 0xC5]
  | .set_0_mIYd d => [0xFD, 0xCB, d, 0xC6]
  | .set_0_mIYd_A d => [0xFD, 0xCB, d, 0xC7]
  | .set_1_mIYd_B d => [0xFD, 0xCB, d, 0xC8]
  | .set_1_mIYd_C d => [0xFD, 0xCB, d, 0xC9]
  | .set_1_mIYd_D d => [0xFD, 0xCB, d, 0xCA]
  | .set_1_mIYd_E d => [0xFD, 0xCB, d, 0xCB]
  | .set_1_mIYd_H d => [0xFD, 0xCB, d, 0xCC]
  | .set_1_mIYd_L d => [0xFD, 0xCB, d, 0xCD]
  | .set_1_mIYd d => [0xFD, 0xCB, d, 0xCE]
  | .set_1_mIYd_A d => [0xFD, 0xCB, d, 0xCF]
  | .set_2_mIYd_B d => [0xFD, 0xCB, d, 0xD0]
  | .set_2_mIYd_C d => [0xFD, 0xCB, d, 0xD1]
  | .set_2_mIYd_D d => [0xFD, 0xCB, d, 0xD2]
  | .set_2_mIYd_E d => [0xFD, 0xCB, d, 0xD3]
  | .set_2_mIYd_H d => [0xFD, 0xCB, d, 0xD4]
  | .set_2_mIYd_L d => [0xFD, 0xCB, d, 0xD5]
  | .set_2_mIYd d => [0xFD, 0xCB, d, 0xD6]
  | .set_2_mIYd_A d => [0xFD, 0xCB, d, 0xD7]
  | .set_3_mIYd_B d => [0xFD, 0xCB, d, 0xD8]
  | .set_3_mIYd_C d => [0xFD, 0xCB, d, 0xD9]
  | .set_3_mIYd_D d => [0xFD, 0xCB, d, 0xDA]
  | .set_3_mIYd_E d => [0xFD, 0xCB, d, 0xDB]
  | .set_3_mIYd_H d => [0xFD, 0xCB, d, 0xDC]
  | .set_3_mIYd_L d => [0xFD, 0xCB, d, 0xDD]
  | .set_3_mIYd d => [0xFD, 0xCB, d, 0xDE]
  | .set_3_mIYd_A d => [0xFD, 0xCB, d, 0xDF]
  | .set_4_mIYd_B d => [0xFD, 0xCB, d, 0xE0]
  | .set_4_mIYd_C d => [0xFD, 0xCB, d, 0xE1]
  | .set_4_mIYd_D d => [0xFD, 0xCB, d, 0xE2]
  | .set_4_mIYd_E d => [0xFD, 0xCB, d, 0xE3]
  | .set_4_mIYd_H d => [0xFD, 0xCB, d, 0xE4]
  | .set_4_mIYd_L d => [0xFD, 0xCB, d, 0xE5]
  | .set_4_mIYd d => [0xFD, 0xCB, d, 0xE6]
  | .set_4_mIYd_A d => [0xFD, 0xCB, d, 0xE7]
  | .set_5_mIYd_B d => [0xFD, 0xCB, d, 0xE8]
  | .set_5_mIYd_C d => [0xFD, 0xCB, d, 0xE9]
  | .set_5_mIYd_D d => [0xFD, 0xCB, d, 0xEA]
  | .set_5_mIYd_E d => [0xFD, 0xCB, d, 0xEB]
  | .set_5_mIYd_H d => [0xFD, 0xCB, d, 0xEC]
  | .set_5_mIYd_L d => [0xFD, 0xCB, d, 0xED]
  | .set_5_mIYd d => [0xFD, 0xCB, d, 0xEE]
  | .set_5_mIYd_A d => [0xFD, 0xCB, d, 0xEF]
  | .set_6_mIYd_B d => [0xFD, 0xCB, d, 0xF0]
  | .set_6_mIYd_C d => [0xFD, 0xCB, d, 0xF1]
  | .set_6_mIYd_D d => [0xFD, 0xCB, d, 0xF2]
  | .set_6_mIYd_E d => [0xFD, 0xCB, d, 0xF3]
  | .set_6_mIYd_H d => [0xFD, 0xCB, d, 0xF4]
  | .set_6_mIYd_L d => [0xFD, 0xCB, d, 0xF5]
  | .set_6_mIYd d => [0xFD, 0xCB, d, 0xF6]
  | .set_6_mIYd_A d => [0xFD, 0xCB, d, 0xF7]
  | .set_7_mIYd_B d => [0xFD, 0xCB, d, 0xF8]
  | .set_7_mIYd_C d => [0xFD, 0xCB, d, 0xF9]
  | .set_7_mIYd_D d => [0xFD, 0xCB, d, 0xFA]
  | .set_7_mIYd_E d => [0xFD, 0xCB, d, 0xFB]
  | .set_7_mIYd_H d => [0xFD, 0xCB, d, 0xFC]
  | .set_7_mIYd_L d => [0xFD, 0xCB, d, 0xFD]
  | .set_7_mIYd d => [0xFD, 0xCB, d, 0xFE]
  | .set_7_mIYd_A d => [0xFD, 0xCB, d, 0xFF]

/-! ## One word of the opcode table -/

/-- The k bytes of w with the first at its least significant end. -/
def bytesLow (k w : Nat) : List Byte :=
  match k with
  | 0 => []
  | k + 1 => BitVec.ofNat 8 w :: bytesLow k (w / 256)

/-- Whether the bytes, with zeros after them, are exactly one instruction as long as they are. -/
def readsExactly (bytes : List Byte) : Bool :=
  match decode bytes with
  | .ok (_, rest) => rest.isEmpty
  | .error _ => false

/-- The bytes of a table word in address order, with zero bytes after them up to four. The table's
`match` numbers put byte 1 at the most significant end (R137); a word whose bits count on from byte 1
upwards puts it at the least significant end. The reading that makes one instruction of exactly that
length, with no immediate byte set, is taken; where neither does, byte 1 is at the most significant
end. Log entry 15. -/
def tableBytes (nbits w : Nat) : List Byte :=
  let low := bytesLow (nbits / 8) w
  let high := low.reverse
  let highFirst := readsExactly high && (high.headD 0x00 == 0xCB || high.getLastD 0x00 != 0xCB)
  let bytes := if !highFirst && readsExactly low then low else high
  (bytes ++ [0x00, 0x00, 0x00, 0x00]).take 4

/-- What the decoder reads from a table word of nbits bits. -/
def decodeTableWord (nbits w : Nat) : Option Instr :=
  match decode (tableBytes nbits w) with
  | .ok (i, _) => some i
  | .error _ => none

end

end Sys2Proof
end

