-- ==== Sys2Proof/Machine/BitOps.lean ====
section
/-! DEFINITION. The meanings of 47_bit.md of BIT, SET and RES (R400 to R404). Each meaning runs after
the instruction's bytes have been fetched: pc is past them and R has counted them (R12, R36). -/

namespace Sys2Proof.Machine

/-! ## Shared operations -/

/-- `BIT b,r` (R400): Y and X from the register. -/
def bitReg (b : Field3) (r : Reg8) (s : State) : State :=
  (s.setFlags (bitFlags b.value (s.reg8 r) (s.reg8 r) s.flags)).setCycles 8

/-- `BIT b,(HL)` (R401): Y and X from W. -/
def bitMem (b : Field3) (s : State) : State :=
  (s.setFlags (bitFlags b.value (s.read8 s.hl) (hi s.wz) s.flags)).setCycles 12

/-- `BIT b,(XY+d)` (R402): Y and X from W, which is the high byte of EA; the z field changes nothing. -/
def bitIdx (b : Field3) (x : Idx) (_z : Field3) (d : Byte) (s : State) : State :=
  let s1 := latchEA x d s
  (s1.setFlags (bitFlags b.value (s.read8 (effAddr x d s)) (hi s1.wz) s.flags)).setCycles 20

/-- `v | (1 << b)` (R403). -/
def setBit (b : Field3) (v : Byte) : Byte := v ||| bitMask b.value

/-- `v & ~(1 << b)` (R404). -/
def resBit (b : Field3) (v : Byte) : Byte := v &&& ~~~bitMask b.value

/-- The write-back of SET and RES on (XY+d) of a byte computed by `g` (R385, R403, R404). -/
def modifyIdx (g : Byte → Byte) (x : Idx) (d : Byte) (s : State) : State :=
  (latchEA x d s).write8 (effAddr x d s) (g (s.read8 (effAddr x d s)))

/-- The copy forms of SET and RES on (XY+d): memory first, then the register (R385). -/
def modifyIdxCopy (g : Byte → Byte) (x : Idx) (r : Reg8) (d : Byte) (s : State) : State :=
  (modifyIdx g x d s).setReg8 r (g (s.read8 (effAddr x d s)))

/-- `SET b,r` (R403). -/
def setBitReg (b : Field3) (r : Reg8) (s : State) : State :=
  (s.setReg8 r (setBit b (s.reg8 r))).setCycles 8

/-- `SET b,(HL)` (R403). -/
def setBitMem (b : Field3) (s : State) : State := (s.write8 s.hl (setBit b (s.read8 s.hl))).setCycles 15

/-- `SET b,(XY+d)` (R403). -/
def setBitIdx (b : Field3) (x : Idx) (d : Byte) (s : State) : State :=
  (modifyIdx (setBit b) x d s).setCycles 23

/-- `SET b,(XY+d),r` (R403). -/
def setBitIdxCopy (b : Field3) (x : Idx) (r : Reg8) (d : Byte) (s : State) : State :=
  (modifyIdxCopy (setBit b) x r d s).setCycles 23

/-- `RES b,r` (R404). -/
def resBitReg (b : Field3) (r : Reg8) (s : State) : State :=
  (s.setReg8 r (resBit b (s.reg8 r))).setCycles 8

/-- `RES b,(HL)` (R404). -/
def resBitMem (b : Field3) (s : State) : State := (s.write8 s.hl (resBit b (s.read8 s.hl))).setCycles 15

/-- `RES b,(XY+d)` (R404). -/
def resBitIdx (b : Field3) (x : Idx) (d : Byte) (s : State) : State :=
  (modifyIdx (resBit b) x d s).setCycles 23

/-- `RES b,(XY+d),r` (R404). -/
def resBitIdxCopy (b : Field3) (x : Idx) (r : Reg8) (d : Byte) (s : State) : State :=
  (modifyIdxCopy (resBit b) x r d s).setCycles 23

/-! ## One meaning per row of the opcode table -/

-- `BIT b,r` (R400).

def execBit_0_B (s : State) : Result := .next (bitReg .f0 .b s)
def execBit_0_C (s : State) : Result := .next (bitReg .f0 .c s)
def execBit_0_D (s : State) : Result := .next (bitReg .f0 .d s)
def execBit_0_E (s : State) : Result := .next (bitReg .f0 .e s)
def execBit_0_H (s : State) : Result := .next (bitReg .f0 .h s)
def execBit_0_L (s : State) : Result := .next (bitReg .f0 .l s)
def execBit_0_A (s : State) : Result := .next (bitReg .f0 .a s)
def execBit_1_B (s : State) : Result := .next (bitReg .f1 .b s)
def execBit_1_C (s : State) : Result := .next (bitReg .f1 .c s)
def execBit_1_D (s : State) : Result := .next (bitReg .f1 .d s)
def execBit_1_E (s : State) : Result := .next (bitReg .f1 .e s)
def execBit_1_H (s : State) : Result := .next (bitReg .f1 .h s)
def execBit_1_L (s : State) : Result := .next (bitReg .f1 .l s)
def execBit_1_A (s : State) : Result := .next (bitReg .f1 .a s)
def execBit_2_B (s : State) : Result := .next (bitReg .f2 .b s)
def execBit_2_C (s : State) : Result := .next (bitReg .f2 .c s)
def execBit_2_D (s : State) : Result := .next (bitReg .f2 .d s)
def execBit_2_E (s : State) : Result := .next (bitReg .f2 .e s)
def execBit_2_H (s : State) : Result := .next (bitReg .f2 .h s)
def execBit_2_L (s : State) : Result := .next (bitReg .f2 .l s)
def execBit_2_A (s : State) : Result := .next (bitReg .f2 .a s)
def execBit_3_B (s : State) : Result := .next (bitReg .f3 .b s)
def execBit_3_C (s : State) : Result := .next (bitReg .f3 .c s)
def execBit_3_D (s : State) : Result := .next (bitReg .f3 .d s)
def execBit_3_E (s : State) : Result := .next (bitReg .f3 .e s)
def execBit_3_H (s : State) : Result := .next (bitReg .f3 .h s)
def execBit_3_L (s : State) : Result := .next (bitReg .f3 .l s)
def execBit_3_A (s : State) : Result := .next (bitReg .f3 .a s)
def execBit_4_B (s : State) : Result := .next (bitReg .f4 .b s)
def execBit_4_C (s : State) : Result := .next (bitReg .f4 .c s)
def execBit_4_D (s : State) : Result := .next (bitReg .f4 .d s)
def execBit_4_E (s : State) : Result := .next (bitReg .f4 .e s)
def execBit_4_H (s : State) : Result := .next (bitReg .f4 .h s)
def execBit_4_L (s : State) : Result := .next (bitReg .f4 .l s)
def execBit_4_A (s : State) : Result := .next (bitReg .f4 .a s)
def execBit_5_B (s : State) : Result := .next (bitReg .f5 .b s)
def execBit_5_C (s : State) : Result := .next (bitReg .f5 .c s)
def execBit_5_D (s : State) : Result := .next (bitReg .f5 .d s)
def execBit_5_E (s : State) : Result := .next (bitReg .f5 .e s)
def execBit_5_H (s : State) : Result := .next (bitReg .f5 .h s)
def execBit_5_L (s : State) : Result := .next (bitReg .f5 .l s)
def execBit_5_A (s : State) : Result := .next (bitReg .f5 .a s)
def execBit_6_B (s : State) : Result := .next (bitReg .f6 .b s)
def execBit_6_C (s : State) : Result := .next (bitReg .f6 .c s)
def execBit_6_D (s : State) : Result := .next (bitReg .f6 .d s)
def execBit_6_E (s : State) : Result := .next (bitReg .f6 .e s)
def execBit_6_H (s : State) : Result := .next (bitReg .f6 .h s)
def execBit_6_L (s : State) : Result := .next (bitReg .f6 .l s)
def execBit_6_A (s : State) : Result := .next (bitReg .f6 .a s)
def execBit_7_B (s : State) : Result := .next (bitReg .f7 .b s)
def execBit_7_C (s : State) : Result := .next (bitReg .f7 .c s)
def execBit_7_D (s : State) : Result := .next (bitReg .f7 .d s)
def execBit_7_E (s : State) : Result := .next (bitReg .f7 .e s)
def execBit_7_H (s : State) : Result := .next (bitReg .f7 .h s)
def execBit_7_L (s : State) : Result := .next (bitReg .f7 .l s)
def execBit_7_A (s : State) : Result := .next (bitReg .f7 .a s)

-- `BIT b,(HL)` (R401).

def execBit_0_mHL (s : State) : Result := .next (bitMem .f0 s)
def execBit_1_mHL (s : State) : Result := .next (bitMem .f1 s)
def execBit_2_mHL (s : State) : Result := .next (bitMem .f2 s)
def execBit_3_mHL (s : State) : Result := .next (bitMem .f3 s)
def execBit_4_mHL (s : State) : Result := .next (bitMem .f4 s)
def execBit_5_mHL (s : State) : Result := .next (bitMem .f5 s)
def execBit_6_mHL (s : State) : Result := .next (bitMem .f6 s)
def execBit_7_mHL (s : State) : Result := .next (bitMem .f7 s)

-- `RES b,r` (R404).

def execRes_0_B (s : State) : Result := .next (resBitReg .f0 .b s)
def execRes_0_C (s : State) : Result := .next (resBitReg .f0 .c s)
def execRes_0_D (s : State) : Result := .next (resBitReg .f0 .d s)
def execRes_0_E (s : State) : Result := .next (resBitReg .f0 .e s)
def execRes_0_H (s : State) : Result := .next (resBitReg .f0 .h s)
def execRes_0_L (s : State) : Result := .next (resBitReg .f0 .l s)
def execRes_0_A (s : State) : Result := .next (resBitReg .f0 .a s)
def execRes_1_B (s : State) : Result := .next (resBitReg .f1 .b s)
def execRes_1_C (s : State) : Result := .next (resBitReg .f1 .c s)
def execRes_1_D (s : State) : Result := .next (resBitReg .f1 .d s)
def execRes_1_E (s : State) : Result := .next (resBitReg .f1 .e s)
def execRes_1_H (s : State) : Result := .next (resBitReg .f1 .h s)
def execRes_1_L (s : State) : Result := .next (resBitReg .f1 .l s)
def execRes_1_A (s : State) : Result := .next (resBitReg .f1 .a s)
def execRes_2_B (s : State) : Result := .next (resBitReg .f2 .b s)
def execRes_2_C (s : State) : Result := .next (resBitReg .f2 .c s)
def execRes_2_D (s : State) : Result := .next (resBitReg .f2 .d s)
def execRes_2_E (s : State) : Result := .next (resBitReg .f2 .e s)
def execRes_2_H (s : State) : Result := .next (resBitReg .f2 .h s)
def execRes_2_L (s : State) : Result := .next (resBitReg .f2 .l s)
def execRes_2_A (s : State) : Result := .next (resBitReg .f2 .a s)
def execRes_3_B (s : State) : Result := .next (resBitReg .f3 .b s)
def execRes_3_C (s : State) : Result := .next (resBitReg .f3 .c s)
def execRes_3_D (s : State) : Result := .next (resBitReg .f3 .d s)
def execRes_3_E (s : State) : Result := .next (resBitReg .f3 .e s)
def execRes_3_H (s : State) : Result := .next (resBitReg .f3 .h s)
def execRes_3_L (s : State) : Result := .next (resBitReg .f3 .l s)
def execRes_3_A (s : State) : Result := .next (resBitReg .f3 .a s)
def execRes_4_B (s : State) : Result := .next (resBitReg .f4 .b s)
def execRes_4_C (s : State) : Result := .next (resBitReg .f4 .c s)
def execRes_4_D (s : State) : Result := .next (resBitReg .f4 .d s)
def execRes_4_E (s : State) : Result := .next (resBitReg .f4 .e s)
def execRes_4_H (s : State) : Result := .next (resBitReg .f4 .h s)
def execRes_4_L (s : State) : Result := .next (resBitReg .f4 .l s)
def execRes_4_A (s : State) : Result := .next (resBitReg .f4 .a s)
def execRes_5_B (s : State) : Result := .next (resBitReg .f5 .b s)
def execRes_5_C (s : State) : Result := .next (resBitReg .f5 .c s)
def execRes_5_D (s : State) : Result := .next (resBitReg .f5 .d s)
def execRes_5_E (s : State) : Result := .next (resBitReg .f5 .e s)
def execRes_5_H (s : State) : Result := .next (resBitReg .f5 .h s)
def execRes_5_L (s : State) : Result := .next (resBitReg .f5 .l s)
def execRes_5_A (s : State) : Result := .next (resBitReg .f5 .a s)
def execRes_6_B (s : State) : Result := .next (resBitReg .f6 .b s)
def execRes_6_C (s : State) : Result := .next (resBitReg .f6 .c s)
def execRes_6_D (s : State) : Result := .next (resBitReg .f6 .d s)
def execRes_6_E (s : State) : Result := .next (resBitReg .f6 .e s)
def execRes_6_H (s : State) : Result := .next (resBitReg .f6 .h s)
def execRes_6_L (s : State) : Result := .next (resBitReg .f6 .l s)
def execRes_6_A (s : State) : Result := .next (resBitReg .f6 .a s)
def execRes_7_B (s : State) : Result := .next (resBitReg .f7 .b s)
def execRes_7_C (s : State) : Result := .next (resBitReg .f7 .c s)
def execRes_7_D (s : State) : Result := .next (resBitReg .f7 .d s)
def execRes_7_E (s : State) : Result := .next (resBitReg .f7 .e s)
def execRes_7_H (s : State) : Result := .next (resBitReg .f7 .h s)
def execRes_7_L (s : State) : Result := .next (resBitReg .f7 .l s)
def execRes_7_A (s : State) : Result := .next (resBitReg .f7 .a s)

-- `RES b,(HL)` (R404).

def execRes_0_mHL (s : State) : Result := .next (resBitMem .f0 s)
def execRes_1_mHL (s : State) : Result := .next (resBitMem .f1 s)
def execRes_2_mHL (s : State) : Result := .next (resBitMem .f2 s)
def execRes_3_mHL (s : State) : Result := .next (resBitMem .f3 s)
def execRes_4_mHL (s : State) : Result := .next (resBitMem .f4 s)
def execRes_5_mHL (s : State) : Result := .next (resBitMem .f5 s)
def execRes_6_mHL (s : State) : Result := .next (resBitMem .f6 s)
def execRes_7_mHL (s : State) : Result := .next (resBitMem .f7 s)

-- `SET b,r` (R403).

def execSet_0_B (s : State) : Result := .next (setBitReg .f0 .b s)
def execSet_0_C (s : State) : Result := .next (setBitReg .f0 .c s)
def execSet_0_D (s : State) : Result := .next (setBitReg .f0 .d s)
def execSet_0_E (s : State) : Result := .next (setBitReg .f0 .e s)
def execSet_0_H (s : State) : Result := .next (setBitReg .f0 .h s)
def execSet_0_L (s : State) : Result := .next (setBitReg .f0 .l s)
def execSet_0_A (s : State) : Result := .next (setBitReg .f0 .a s)
def execSet_1_B (s : State) : Result := .next (setBitReg .f1 .b s)
def execSet_1_C (s : State) : Result := .next (setBitReg .f1 .c s)
def execSet_1_D (s : State) : Result := .next (setBitReg .f1 .d s)
def execSet_1_E (s : State) : Result := .next (setBitReg .f1 .e s)
def execSet_1_H (s : State) : Result := .next (setBitReg .f1 .h s)
def execSet_1_L (s : State) : Result := .next (setBitReg .f1 .l s)
def execSet_1_A (s : State) : Result := .next (setBitReg .f1 .a s)
def execSet_2_B (s : State) : Result := .next (setBitReg .f2 .b s)
def execSet_2_C (s : State) : Result := .next (setBitReg .f2 .c s)
def execSet_2_D (s : State) : Result := .next (setBitReg .f2 .d s)
def execSet_2_E (s : State) : Result := .next (setBitReg .f2 .e s)
def execSet_2_H (s : State) : Result := .next (setBitReg .f2 .h s)
def execSet_2_L (s : State) : Result := .next (setBitReg .f2 .l s)
def execSet_2_A (s : State) : Result := .next (setBitReg .f2 .a s)
def execSet_3_B (s : State) : Result := .next (setBitReg .f3 .b s)
def execSet_3_C (s : State) : Result := .next (setBitReg .f3 .c s)
def execSet_3_D (s : State) : Result := .next (setBitReg .f3 .d s)
def execSet_3_E (s : State) : Result := .next (setBitReg .f3 .e s)
def execSet_3_H (s : State) : Result := .next (setBitReg .f3 .h s)
def execSet_3_L (s : State) : Result := .next (setBitReg .f3 .l s)
def execSet_3_A (s : State) : Result := .next (setBitReg .f3 .a s)
def execSet_4_B (s : State) : Result := .next (setBitReg .f4 .b s)
def execSet_4_C (s : State) : Result := .next (setBitReg .f4 .c s)
def execSet_4_D (s : State) : Result := .next (setBitReg .f4 .d s)
def execSet_4_E (s : State) : Result := .next (setBitReg .f4 .e s)
def execSet_4_H (s : State) : Result := .next (setBitReg .f4 .h s)
def execSet_4_L (s : State) : Result := .next (setBitReg .f4 .l s)
def execSet_4_A (s : State) : Result := .next (setBitReg .f4 .a s)
def execSet_5_B (s : State) : Result := .next (setBitReg .f5 .b s)
def execSet_5_C (s : State) : Result := .next (setBitReg .f5 .c s)
def execSet_5_D (s : State) : Result := .next (setBitReg .f5 .d s)
def execSet_5_E (s : State) : Result := .next (setBitReg .f5 .e s)
def execSet_5_H (s : State) : Result := .next (setBitReg .f5 .h s)
def execSet_5_L (s : State) : Result := .next (setBitReg .f5 .l s)
def execSet_5_A (s : State) : Result := .next (setBitReg .f5 .a s)
def execSet_6_B (s : State) : Result := .next (setBitReg .f6 .b s)
def execSet_6_C (s : State) : Result := .next (setBitReg .f6 .c s)
def execSet_6_D (s : State) : Result := .next (setBitReg .f6 .d s)
def execSet_6_E (s : State) : Result := .next (setBitReg .f6 .e s)
def execSet_6_H (s : State) : Result := .next (setBitReg .f6 .h s)
def execSet_6_L (s : State) : Result := .next (setBitReg .f6 .l s)
def execSet_6_A (s : State) : Result := .next (setBitReg .f6 .a s)
def execSet_7_B (s : State) : Result := .next (setBitReg .f7 .b s)
def execSet_7_C (s : State) : Result := .next (setBitReg .f7 .c s)
def execSet_7_D (s : State) : Result := .next (setBitReg .f7 .d s)
def execSet_7_E (s : State) : Result := .next (setBitReg .f7 .e s)
def execSet_7_H (s : State) : Result := .next (setBitReg .f7 .h s)
def execSet_7_L (s : State) : Result := .next (setBitReg .f7 .l s)
def execSet_7_A (s : State) : Result := .next (setBitReg .f7 .a s)

-- `SET b,(HL)` (R403).

def execSet_0_mHL (s : State) : Result := .next (setBitMem .f0 s)
def execSet_1_mHL (s : State) : Result := .next (setBitMem .f1 s)
def execSet_2_mHL (s : State) : Result := .next (setBitMem .f2 s)
def execSet_3_mHL (s : State) : Result := .next (setBitMem .f3 s)
def execSet_4_mHL (s : State) : Result := .next (setBitMem .f4 s)
def execSet_5_mHL (s : State) : Result := .next (setBitMem .f5 s)
def execSet_6_mHL (s : State) : Result := .next (setBitMem .f6 s)
def execSet_7_mHL (s : State) : Result := .next (setBitMem .f7 s)

-- `BIT b,(XY+d)` with the z field of its opcode byte (R402).

def execBit_0_mIXd_z0 (d : Byte) (s : State) : Result := .next (bitIdx .f0 .ix .f0 d s)
def execBit_0_mIXd_z1 (d : Byte) (s : State) : Result := .next (bitIdx .f0 .ix .f1 d s)
def execBit_0_mIXd_z2 (d : Byte) (s : State) : Result := .next (bitIdx .f0 .ix .f2 d s)
def execBit_0_mIXd_z3 (d : Byte) (s : State) : Result := .next (bitIdx .f0 .ix .f3 d s)
def execBit_0_mIXd_z4 (d : Byte) (s : State) : Result := .next (bitIdx .f0 .ix .f4 d s)
def execBit_0_mIXd_z5 (d : Byte) (s : State) : Result := .next (bitIdx .f0 .ix .f5 d s)
def execBit_0_mIXd_z6 (d : Byte) (s : State) : Result := .next (bitIdx .f0 .ix .f6 d s)
def execBit_0_mIXd_z7 (d : Byte) (s : State) : Result := .next (bitIdx .f0 .ix .f7 d s)
def execBit_1_mIXd_z0 (d : Byte) (s : State) : Result := .next (bitIdx .f1 .ix .f0 d s)
def execBit_1_mIXd_z1 (d : Byte) (s : State) : Result := .next (bitIdx .f1 .ix .f1 d s)
def execBit_1_mIXd_z2 (d : Byte) (s : State) : Result := .next (bitIdx .f1 .ix .f2 d s)
def execBit_1_mIXd_z3 (d : Byte) (s : State) : Result := .next (bitIdx .f1 .ix .f3 d s)
def execBit_1_mIXd_z4 (d : Byte) (s : State) : Result := .next (bitIdx .f1 .ix .f4 d s)
def execBit_1_mIXd_z5 (d : Byte) (s : State) : Result := .next (bitIdx .f1 .ix .f5 d s)
def execBit_1_mIXd_z6 (d : Byte) (s : State) : Result := .next (bitIdx .f1 .ix .f6 d s)
def execBit_1_mIXd_z7 (d : Byte) (s : State) : Result := .next (bitIdx .f1 .ix .f7 d s)
def execBit_2_mIXd_z0 (d : Byte) (s : State) : Result := .next (bitIdx .f2 .ix .f0 d s)
def execBit_2_mIXd_z1 (d : Byte) (s : State) : Result := .next (bitIdx .f2 .ix .f1 d s)
def execBit_2_mIXd_z2 (d : Byte) (s : State) : Result := .next (bitIdx .f2 .ix .f2 d s)
def execBit_2_mIXd_z3 (d : Byte) (s : State) : Result := .next (bitIdx .f2 .ix .f3 d s)
def execBit_2_mIXd_z4 (d : Byte) (s : State) : Result := .next (bitIdx .f2 .ix .f4 d s)
def execBit_2_mIXd_z5 (d : Byte) (s : State) : Result := .next (bitIdx .f2 .ix .f5 d s)
def execBit_2_mIXd_z6 (d : Byte) (s : State) : Result := .next (bitIdx .f2 .ix .f6 d s)
def execBit_2_mIXd_z7 (d : Byte) (s : State) : Result := .next (bitIdx .f2 .ix .f7 d s)
def execBit_3_mIXd_z0 (d : Byte) (s : State) : Result := .next (bitIdx .f3 .ix .f0 d s)
def execBit_3_mIXd_z1 (d : Byte) (s : State) : Result := .next (bitIdx .f3 .ix .f1 d s)
def execBit_3_mIXd_z2 (d : Byte) (s : State) : Result := .next (bitIdx .f3 .ix .f2 d s)
def execBit_3_mIXd_z3 (d : Byte) (s : State) : Result := .next (bitIdx .f3 .ix .f3 d s)
def execBit_3_mIXd_z4 (d : Byte) (s : State) : Result := .next (bitIdx .f3 .ix .f4 d s)
def execBit_3_mIXd_z5 (d : Byte) (s : State) : Result := .next (bitIdx .f3 .ix .f5 d s)
def execBit_3_mIXd_z6 (d : Byte) (s : State) : Result := .next (bitIdx .f3 .ix .f6 d s)
def execBit_3_mIXd_z7 (d : Byte) (s : State) : Result := .next (bitIdx .f3 .ix .f7 d s)
def execBit_4_mIXd_z0 (d : Byte) (s : State) : Result := .next (bitIdx .f4 .ix .f0 d s)
def execBit_4_mIXd_z1 (d : Byte) (s : State) : Result := .next (bitIdx .f4 .ix .f1 d s)
def execBit_4_mIXd_z2 (d : Byte) (s : State) : Result := .next (bitIdx .f4 .ix .f2 d s)
def execBit_4_mIXd_z3 (d : Byte) (s : State) : Result := .next (bitIdx .f4 .ix .f3 d s)
def execBit_4_mIXd_z4 (d : Byte) (s : State) : Result := .next (bitIdx .f4 .ix .f4 d s)
def execBit_4_mIXd_z5 (d : Byte) (s : State) : Result := .next (bitIdx .f4 .ix .f5 d s)
def execBit_4_mIXd_z6 (d : Byte) (s : State) : Result := .next (bitIdx .f4 .ix .f6 d s)
def execBit_4_mIXd_z7 (d : Byte) (s : State) : Result := .next (bitIdx .f4 .ix .f7 d s)
def execBit_5_mIXd_z0 (d : Byte) (s : State) : Result := .next (bitIdx .f5 .ix .f0 d s)
def execBit_5_mIXd_z1 (d : Byte) (s : State) : Result := .next (bitIdx .f5 .ix .f1 d s)
def execBit_5_mIXd_z2 (d : Byte) (s : State) : Result := .next (bitIdx .f5 .ix .f2 d s)
def execBit_5_mIXd_z3 (d : Byte) (s : State) : Result := .next (bitIdx .f5 .ix .f3 d s)
def execBit_5_mIXd_z4 (d : Byte) (s : State) : Result := .next (bitIdx .f5 .ix .f4 d s)
def execBit_5_mIXd_z5 (d : Byte) (s : State) : Result := .next (bitIdx .f5 .ix .f5 d s)
def execBit_5_mIXd_z6 (d : Byte) (s : State) : Result := .next (bitIdx .f5 .ix .f6 d s)
def execBit_5_mIXd_z7 (d : Byte) (s : State) : Result := .next (bitIdx .f5 .ix .f7 d s)
def execBit_6_mIXd_z0 (d : Byte) (s : State) : Result := .next (bitIdx .f6 .ix .f0 d s)
def execBit_6_mIXd_z1 (d : Byte) (s : State) : Result := .next (bitIdx .f6 .ix .f1 d s)
def execBit_6_mIXd_z2 (d : Byte) (s : State) : Result := .next (bitIdx .f6 .ix .f2 d s)
def execBit_6_mIXd_z3 (d : Byte) (s : State) : Result := .next (bitIdx .f6 .ix .f3 d s)
def execBit_6_mIXd_z4 (d : Byte) (s : State) : Result := .next (bitIdx .f6 .ix .f4 d s)
def execBit_6_mIXd_z5 (d : Byte) (s : State) : Result := .next (bitIdx .f6 .ix .f5 d s)
def execBit_6_mIXd_z6 (d : Byte) (s : State) : Result := .next (bitIdx .f6 .ix .f6 d s)
def execBit_6_mIXd_z7 (d : Byte) (s : State) : Result := .next (bitIdx .f6 .ix .f7 d s)
def execBit_7_mIXd_z0 (d : Byte) (s : State) : Result := .next (bitIdx .f7 .ix .f0 d s)
def execBit_7_mIXd_z1 (d : Byte) (s : State) : Result := .next (bitIdx .f7 .ix .f1 d s)
def execBit_7_mIXd_z2 (d : Byte) (s : State) : Result := .next (bitIdx .f7 .ix .f2 d s)
def execBit_7_mIXd_z3 (d : Byte) (s : State) : Result := .next (bitIdx .f7 .ix .f3 d s)
def execBit_7_mIXd_z4 (d : Byte) (s : State) : Result := .next (bitIdx .f7 .ix .f4 d s)
def execBit_7_mIXd_z5 (d : Byte) (s : State) : Result := .next (bitIdx .f7 .ix .f5 d s)
def execBit_7_mIXd_z6 (d : Byte) (s : State) : Result := .next (bitIdx .f7 .ix .f6 d s)
def execBit_7_mIXd_z7 (d : Byte) (s : State) : Result := .next (bitIdx .f7 .ix .f7 d s)
def execBit_0_mIYd_z0 (d : Byte) (s : State) : Result := .next (bitIdx .f0 .iy .f0 d s)
def execBit_0_mIYd_z1 (d : Byte) (s : State) : Result := .next (bitIdx .f0 .iy .f1 d s)
def execBit_0_mIYd_z2 (d : Byte) (s : State) : Result := .next (bitIdx .f0 .iy .f2 d s)
def execBit_0_mIYd_z3 (d : Byte) (s : State) : Result := .next (bitIdx .f0 .iy .f3 d s)
def execBit_0_mIYd_z4 (d : Byte) (s : State) : Result := .next (bitIdx .f0 .iy .f4 d s)
def execBit_0_mIYd_z5 (d : Byte) (s : State) : Result := .next (bitIdx .f0 .iy .f5 d s)
def execBit_0_mIYd_z6 (d : Byte) (s : State) : Result := .next (bitIdx .f0 .iy .f6 d s)
def execBit_0_mIYd_z7 (d : Byte) (s : State) : Result := .next (bitIdx .f0 .iy .f7 d s)
def execBit_1_mIYd_z0 (d : Byte) (s : State) : Result := .next (bitIdx .f1 .iy .f0 d s)
def execBit_1_mIYd_z1 (d : Byte) (s : State) : Result := .next (bitIdx .f1 .iy .f1 d s)
def execBit_1_mIYd_z2 (d : Byte) (s : State) : Result := .next (bitIdx .f1 .iy .f2 d s)
def execBit_1_mIYd_z3 (d : Byte) (s : State) : Result := .next (bitIdx .f1 .iy .f3 d s)
def execBit_1_mIYd_z4 (d : Byte) (s : State) : Result := .next (bitIdx .f1 .iy .f4 d s)
def execBit_1_mIYd_z5 (d : Byte) (s : State) : Result := .next (bitIdx .f1 .iy .f5 d s)
def execBit_1_mIYd_z6 (d : Byte) (s : State) : Result := .next (bitIdx .f1 .iy .f6 d s)
def execBit_1_mIYd_z7 (d : Byte) (s : State) : Result := .next (bitIdx .f1 .iy .f7 d s)
def execBit_2_mIYd_z0 (d : Byte) (s : State) : Result := .next (bitIdx .f2 .iy .f0 d s)
def execBit_2_mIYd_z1 (d : Byte) (s : State) : Result := .next (bitIdx .f2 .iy .f1 d s)
def execBit_2_mIYd_z2 (d : Byte) (s : State) : Result := .next (bitIdx .f2 .iy .f2 d s)
def execBit_2_mIYd_z3 (d : Byte) (s : State) : Result := .next (bitIdx .f2 .iy .f3 d s)
def execBit_2_mIYd_z4 (d : Byte) (s : State) : Result := .next (bitIdx .f2 .iy .f4 d s)
def execBit_2_mIYd_z5 (d : Byte) (s : State) : Result := .next (bitIdx .f2 .iy .f5 d s)
def execBit_2_mIYd_z6 (d : Byte) (s : State) : Result := .next (bitIdx .f2 .iy .f6 d s)
def execBit_2_mIYd_z7 (d : Byte) (s : State) : Result := .next (bitIdx .f2 .iy .f7 d s)
def execBit_3_mIYd_z0 (d : Byte) (s : State) : Result := .next (bitIdx .f3 .iy .f0 d s)
def execBit_3_mIYd_z1 (d : Byte) (s : State) : Result := .next (bitIdx .f3 .iy .f1 d s)
def execBit_3_mIYd_z2 (d : Byte) (s : State) : Result := .next (bitIdx .f3 .iy .f2 d s)
def execBit_3_mIYd_z3 (d : Byte) (s : State) : Result := .next (bitIdx .f3 .iy .f3 d s)
def execBit_3_mIYd_z4 (d : Byte) (s : State) : Result := .next (bitIdx .f3 .iy .f4 d s)
def execBit_3_mIYd_z5 (d : Byte) (s : State) : Result := .next (bitIdx .f3 .iy .f5 d s)
def execBit_3_mIYd_z6 (d : Byte) (s : State) : Result := .next (bitIdx .f3 .iy .f6 d s)
def execBit_3_mIYd_z7 (d : Byte) (s : State) : Result := .next (bitIdx .f3 .iy .f7 d s)
def execBit_4_mIYd_z0 (d : Byte) (s : State) : Result := .next (bitIdx .f4 .iy .f0 d s)
def execBit_4_mIYd_z1 (d : Byte) (s : State) : Result := .next (bitIdx .f4 .iy .f1 d s)
def execBit_4_mIYd_z2 (d : Byte) (s : State) : Result := .next (bitIdx .f4 .iy .f2 d s)
def execBit_4_mIYd_z3 (d : Byte) (s : State) : Result := .next (bitIdx .f4 .iy .f3 d s)
def execBit_4_mIYd_z4 (d : Byte) (s : State) : Result := .next (bitIdx .f4 .iy .f4 d s)
def execBit_4_mIYd_z5 (d : Byte) (s : State) : Result := .next (bitIdx .f4 .iy .f5 d s)
def execBit_4_mIYd_z6 (d : Byte) (s : State) : Result := .next (bitIdx .f4 .iy .f6 d s)
def execBit_4_mIYd_z7 (d : Byte) (s : State) : Result := .next (bitIdx .f4 .iy .f7 d s)
def execBit_5_mIYd_z0 (d : Byte) (s : State) : Result := .next (bitIdx .f5 .iy .f0 d s)
def execBit_5_mIYd_z1 (d : Byte) (s : State) : Result := .next (bitIdx .f5 .iy .f1 d s)
def execBit_5_mIYd_z2 (d : Byte) (s : State) : Result := .next (bitIdx .f5 .iy .f2 d s)
def execBit_5_mIYd_z3 (d : Byte) (s : State) : Result := .next (bitIdx .f5 .iy .f3 d s)
def execBit_5_mIYd_z4 (d : Byte) (s : State) : Result := .next (bitIdx .f5 .iy .f4 d s)
def execBit_5_mIYd_z5 (d : Byte) (s : State) : Result := .next (bitIdx .f5 .iy .f5 d s)
def execBit_5_mIYd_z6 (d : Byte) (s : State) : Result := .next (bitIdx .f5 .iy .f6 d s)
def execBit_5_mIYd_z7 (d : Byte) (s : State) : Result := .next (bitIdx .f5 .iy .f7 d s)
def execBit_6_mIYd_z0 (d : Byte) (s : State) : Result := .next (bitIdx .f6 .iy .f0 d s)
def execBit_6_mIYd_z1 (d : Byte) (s : State) : Result := .next (bitIdx .f6 .iy .f1 d s)
def execBit_6_mIYd_z2 (d : Byte) (s : State) : Result := .next (bitIdx .f6 .iy .f2 d s)
def execBit_6_mIYd_z3 (d : Byte) (s : State) : Result := .next (bitIdx .f6 .iy .f3 d s)
def execBit_6_mIYd_z4 (d : Byte) (s : State) : Result := .next (bitIdx .f6 .iy .f4 d s)
def execBit_6_mIYd_z5 (d : Byte) (s : State) : Result := .next (bitIdx .f6 .iy .f5 d s)
def execBit_6_mIYd_z6 (d : Byte) (s : State) : Result := .next (bitIdx .f6 .iy .f6 d s)
def execBit_6_mIYd_z7 (d : Byte) (s : State) : Result := .next (bitIdx .f6 .iy .f7 d s)
def execBit_7_mIYd_z0 (d : Byte) (s : State) : Result := .next (bitIdx .f7 .iy .f0 d s)
def execBit_7_mIYd_z1 (d : Byte) (s : State) : Result := .next (bitIdx .f7 .iy .f1 d s)
def execBit_7_mIYd_z2 (d : Byte) (s : State) : Result := .next (bitIdx .f7 .iy .f2 d s)
def execBit_7_mIYd_z3 (d : Byte) (s : State) : Result := .next (bitIdx .f7 .iy .f3 d s)
def execBit_7_mIYd_z4 (d : Byte) (s : State) : Result := .next (bitIdx .f7 .iy .f4 d s)
def execBit_7_mIYd_z5 (d : Byte) (s : State) : Result := .next (bitIdx .f7 .iy .f5 d s)
def execBit_7_mIYd_z6 (d : Byte) (s : State) : Result := .next (bitIdx .f7 .iy .f6 d s)
def execBit_7_mIYd_z7 (d : Byte) (s : State) : Result := .next (bitIdx .f7 .iy .f7 d s)

-- `RES b,(XY+d),r` (R404).

def execRes_0_mIXd_B (d : Byte) (s : State) : Result := .next (resBitIdxCopy .f0 .ix .b d s)
def execRes_0_mIXd_C (d : Byte) (s : State) : Result := .next (resBitIdxCopy .f0 .ix .c d s)
def execRes_0_mIXd_D (d : Byte) (s : State) : Result := .next (resBitIdxCopy .f0 .ix .d d s)
def execRes_0_mIXd_E (d : Byte) (s : State) : Result := .next (resBitIdxCopy .f0 .ix .e d s)
def execRes_0_mIXd_H (d : Byte) (s : State) : Result := .next (resBitIdxCopy .f0 .ix .h d s)
def execRes_0_mIXd_L (d : Byte) (s : State) : Result := .next (resBitIdxCopy .f0 .ix .l d s)
def execRes_0_mIXd_A (d : Byte) (s : State) : Result := .next (resBitIdxCopy .f0 .ix .a d s)
def execRes_1_mIXd_B (d : Byte) (s : State) : Result := .next (resBitIdxCopy .f1 .ix .b d s)
def execRes_1_mIXd_C (d : Byte) (s : State) : Result := .next (resBitIdxCopy .f1 .ix .c d s)
def execRes_1_mIXd_D (d : Byte) (s : State) : Result := .next (resBitIdxCopy .f1 .ix .d d s)
def execRes_1_mIXd_E (d : Byte) (s : State) : Result := .next (resBitIdxCopy .f1 .ix .e d s)
def execRes_1_mIXd_H (d : Byte) (s : State) : Result := .next (resBitIdxCopy .f1 .ix .h d s)
def execRes_1_mIXd_L (d : Byte) (s : State) : Result := .next (resBitIdxCopy .f1 .ix .l d s)
def execRes_1_mIXd_A (d : Byte) (s : State) : Result := .next (resBitIdxCopy .f1 .ix .a d s)
def execRes_2_mIXd_B (d : Byte) (s : State) : Result := .next (resBitIdxCopy .f2 .ix .b d s)
def execRes_2_mIXd_C (d : Byte) (s : State) : Result := .next (resBitIdxCopy .f2 .ix .c d s)
def execRes_2_mIXd_D (d : Byte) (s : State) : Result := .next (resBitIdxCopy .f2 .ix .d d s)
def execRes_2_mIXd_E (d : Byte) (s : State) : Result := .next (resBitIdxCopy .f2 .ix .e d s)
def execRes_2_mIXd_H (d : Byte) (s : State) : Result := .next (resBitIdxCopy .f2 .ix .h d s)
def execRes_2_mIXd_L (d : Byte) (s : State) : Result := .next (resBitIdxCopy .f2 .ix .l d s)
def execRes_2_mIXd_A (d : Byte) (s : State) : Result := .next (resBitIdxCopy .f2 .ix .a d s)
def execRes_3_mIXd_B (d : Byte) (s : State) : Result := .next (resBitIdxCopy .f3 .ix .b d s)
def execRes_3_mIXd_C (d : Byte) (s : State) : Result := .next (resBitIdxCopy .f3 .ix .c d s)
def execRes_3_mIXd_D (d : Byte) (s : State) : Result := .next (resBitIdxCopy .f3 .ix .d d s)
def execRes_3_mIXd_E (d : Byte) (s : State) : Result := .next (resBitIdxCopy .f3 .ix .e d s)
def execRes_3_mIXd_H (d : Byte) (s : State) : Result := .next (resBitIdxCopy .f3 .ix .h d s)
def execRes_3_mIXd_L (d : Byte) (s : State) : Result := .next (resBitIdxCopy .f3 .ix .l d s)
def execRes_3_mIXd_A (d : Byte) (s : State) : Result := .next (resBitIdxCopy .f3 .ix .a d s)
def execRes_4_mIXd_B (d : Byte) (s : State) : Result := .next (resBitIdxCopy .f4 .ix .b d s)
def execRes_4_mIXd_C (d : Byte) (s : State) : Result := .next (resBitIdxCopy .f4 .ix .c d s)
def execRes_4_mIXd_D (d : Byte) (s : State) : Result := .next (resBitIdxCopy .f4 .ix .d d s)
def execRes_4_mIXd_E (d : Byte) (s : State) : Result := .next (resBitIdxCopy .f4 .ix .e d s)
def execRes_4_mIXd_H (d : Byte) (s : State) : Result := .next (resBitIdxCopy .f4 .ix .h d s)
def execRes_4_mIXd_L (d : Byte) (s : State) : Result := .next (resBitIdxCopy .f4 .ix .l d s)
def execRes_4_mIXd_A (d : Byte) (s : State) : Result := .next (resBitIdxCopy .f4 .ix .a d s)
def execRes_5_mIXd_B (d : Byte) (s : State) : Result := .next (resBitIdxCopy .f5 .ix .b d s)
def execRes_5_mIXd_C (d : Byte) (s : State) : Result := .next (resBitIdxCopy .f5 .ix .c d s)
def execRes_5_mIXd_D (d : Byte) (s : State) : Result := .next (resBitIdxCopy .f5 .ix .d d s)
def execRes_5_mIXd_E (d : Byte) (s : State) : Result := .next (resBitIdxCopy .f5 .ix .e d s)
def execRes_5_mIXd_H (d : Byte) (s : State) : Result := .next (resBitIdxCopy .f5 .ix .h d s)
def execRes_5_mIXd_L (d : Byte) (s : State) : Result := .next (resBitIdxCopy .f5 .ix .l d s)
def execRes_5_mIXd_A (d : Byte) (s : State) : Result := .next (resBitIdxCopy .f5 .ix .a d s)
def execRes_6_mIXd_B (d : Byte) (s : State) : Result := .next (resBitIdxCopy .f6 .ix .b d s)
def execRes_6_mIXd_C (d : Byte) (s : State) : Result := .next (resBitIdxCopy .f6 .ix .c d s)
def execRes_6_mIXd_D (d : Byte) (s : State) : Result := .next (resBitIdxCopy .f6 .ix .d d s)
def execRes_6_mIXd_E (d : Byte) (s : State) : Result := .next (resBitIdxCopy .f6 .ix .e d s)
def execRes_6_mIXd_H (d : Byte) (s : State) : Result := .next (resBitIdxCopy .f6 .ix .h d s)
def execRes_6_mIXd_L (d : Byte) (s : State) : Result := .next (resBitIdxCopy .f6 .ix .l d s)
def execRes_6_mIXd_A (d : Byte) (s : State) : Result := .next (resBitIdxCopy .f6 .ix .a d s)
def execRes_7_mIXd_B (d : Byte) (s : State) : Result := .next (resBitIdxCopy .f7 .ix .b d s)
def execRes_7_mIXd_C (d : Byte) (s : State) : Result := .next (resBitIdxCopy .f7 .ix .c d s)
def execRes_7_mIXd_D (d : Byte) (s : State) : Result := .next (resBitIdxCopy .f7 .ix .d d s)
def execRes_7_mIXd_E (d : Byte) (s : State) : Result := .next (resBitIdxCopy .f7 .ix .e d s)
def execRes_7_mIXd_H (d : Byte) (s : State) : Result := .next (resBitIdxCopy .f7 .ix .h d s)
def execRes_7_mIXd_L (d : Byte) (s : State) : Result := .next (resBitIdxCopy .f7 .ix .l d s)
def execRes_7_mIXd_A (d : Byte) (s : State) : Result := .next (resBitIdxCopy .f7 .ix .a d s)
def execRes_0_mIYd_B (d : Byte) (s : State) : Result := .next (resBitIdxCopy .f0 .iy .b d s)
def execRes_0_mIYd_C (d : Byte) (s : State) : Result := .next (resBitIdxCopy .f0 .iy .c d s)
def execRes_0_mIYd_D (d : Byte) (s : State) : Result := .next (resBitIdxCopy .f0 .iy .d d s)
def execRes_0_mIYd_E (d : Byte) (s : State) : Result := .next (resBitIdxCopy .f0 .iy .e d s)
def execRes_0_mIYd_H (d : Byte) (s : State) : Result := .next (resBitIdxCopy .f0 .iy .h d s)
def execRes_0_mIYd_L (d : Byte) (s : State) : Result := .next (resBitIdxCopy .f0 .iy .l d s)
def execRes_0_mIYd_A (d : Byte) (s : State) : Result := .next (resBitIdxCopy .f0 .iy .a d s)
def execRes_1_mIYd_B (d : Byte) (s : State) : Result := .next (resBitIdxCopy .f1 .iy .b d s)
def execRes_1_mIYd_C (d : Byte) (s : State) : Result := .next (resBitIdxCopy .f1 .iy .c d s)
def execRes_1_mIYd_D (d : Byte) (s : State) : Result := .next (resBitIdxCopy .f1 .iy .d d s)
def execRes_1_mIYd_E (d : Byte) (s : State) : Result := .next (resBitIdxCopy .f1 .iy .e d s)
def execRes_1_mIYd_H (d : Byte) (s : State) : Result := .next (resBitIdxCopy .f1 .iy .h d s)
def execRes_1_mIYd_L (d : Byte) (s : State) : Result := .next (resBitIdxCopy .f1 .iy .l d s)
def execRes_1_mIYd_A (d : Byte) (s : State) : Result := .next (resBitIdxCopy .f1 .iy .a d s)
def execRes_2_mIYd_B (d : Byte) (s : State) : Result := .next (resBitIdxCopy .f2 .iy .b d s)
def execRes_2_mIYd_C (d : Byte) (s : State) : Result := .next (resBitIdxCopy .f2 .iy .c d s)
def execRes_2_mIYd_D (d : Byte) (s : State) : Result := .next (resBitIdxCopy .f2 .iy .d d s)
def execRes_2_mIYd_E (d : Byte) (s : State) : Result := .next (resBitIdxCopy .f2 .iy .e d s)
def execRes_2_mIYd_H (d : Byte) (s : State) : Result := .next (resBitIdxCopy .f2 .iy .h d s)
def execRes_2_mIYd_L (d : Byte) (s : State) : Result := .next (resBitIdxCopy .f2 .iy .l d s)
def execRes_2_mIYd_A (d : Byte) (s : State) : Result := .next (resBitIdxCopy .f2 .iy .a d s)
def execRes_3_mIYd_B (d : Byte) (s : State) : Result := .next (resBitIdxCopy .f3 .iy .b d s)
def execRes_3_mIYd_C (d : Byte) (s : State) : Result := .next (resBitIdxCopy .f3 .iy .c d s)
def execRes_3_mIYd_D (d : Byte) (s : State) : Result := .next (resBitIdxCopy .f3 .iy .d d s)
def execRes_3_mIYd_E (d : Byte) (s : State) : Result := .next (resBitIdxCopy .f3 .iy .e d s)
def execRes_3_mIYd_H (d : Byte) (s : State) : Result := .next (resBitIdxCopy .f3 .iy .h d s)
def execRes_3_mIYd_L (d : Byte) (s : State) : Result := .next (resBitIdxCopy .f3 .iy .l d s)
def execRes_3_mIYd_A (d : Byte) (s : State) : Result := .next (resBitIdxCopy .f3 .iy .a d s)
def execRes_4_mIYd_B (d : Byte) (s : State) : Result := .next (resBitIdxCopy .f4 .iy .b d s)
def execRes_4_mIYd_C (d : Byte) (s : State) : Result := .next (resBitIdxCopy .f4 .iy .c d s)
def execRes_4_mIYd_D (d : Byte) (s : State) : Result := .next (resBitIdxCopy .f4 .iy .d d s)
def execRes_4_mIYd_E (d : Byte) (s : State) : Result := .next (resBitIdxCopy .f4 .iy .e d s)
def execRes_4_mIYd_H (d : Byte) (s : State) : Result := .next (resBitIdxCopy .f4 .iy .h d s)
def execRes_4_mIYd_L (d : Byte) (s : State) : Result := .next (resBitIdxCopy .f4 .iy .l d s)
def execRes_4_mIYd_A (d : Byte) (s : State) : Result := .next (resBitIdxCopy .f4 .iy .a d s)
def execRes_5_mIYd_B (d : Byte) (s : State) : Result := .next (resBitIdxCopy .f5 .iy .b d s)
def execRes_5_mIYd_C (d : Byte) (s : State) : Result := .next (resBitIdxCopy .f5 .iy .c d s)
def execRes_5_mIYd_D (d : Byte) (s : State) : Result := .next (resBitIdxCopy .f5 .iy .d d s)
def execRes_5_mIYd_E (d : Byte) (s : State) : Result := .next (resBitIdxCopy .f5 .iy .e d s)
def execRes_5_mIYd_H (d : Byte) (s : State) : Result := .next (resBitIdxCopy .f5 .iy .h d s)
def execRes_5_mIYd_L (d : Byte) (s : State) : Result := .next (resBitIdxCopy .f5 .iy .l d s)
def execRes_5_mIYd_A (d : Byte) (s : State) : Result := .next (resBitIdxCopy .f5 .iy .a d s)
def execRes_6_mIYd_B (d : Byte) (s : State) : Result := .next (resBitIdxCopy .f6 .iy .b d s)
def execRes_6_mIYd_C (d : Byte) (s : State) : Result := .next (resBitIdxCopy .f6 .iy .c d s)
def execRes_6_mIYd_D (d : Byte) (s : State) : Result := .next (resBitIdxCopy .f6 .iy .d d s)
def execRes_6_mIYd_E (d : Byte) (s : State) : Result := .next (resBitIdxCopy .f6 .iy .e d s)
def execRes_6_mIYd_H (d : Byte) (s : State) : Result := .next (resBitIdxCopy .f6 .iy .h d s)
def execRes_6_mIYd_L (d : Byte) (s : State) : Result := .next (resBitIdxCopy .f6 .iy .l d s)
def execRes_6_mIYd_A (d : Byte) (s : State) : Result := .next (resBitIdxCopy .f6 .iy .a d s)
def execRes_7_mIYd_B (d : Byte) (s : State) : Result := .next (resBitIdxCopy .f7 .iy .b d s)
def execRes_7_mIYd_C (d : Byte) (s : State) : Result := .next (resBitIdxCopy .f7 .iy .c d s)
def execRes_7_mIYd_D (d : Byte) (s : State) : Result := .next (resBitIdxCopy .f7 .iy .d d s)
def execRes_7_mIYd_E (d : Byte) (s : State) : Result := .next (resBitIdxCopy .f7 .iy .e d s)
def execRes_7_mIYd_H (d : Byte) (s : State) : Result := .next (resBitIdxCopy .f7 .iy .h d s)
def execRes_7_mIYd_L (d : Byte) (s : State) : Result := .next (resBitIdxCopy .f7 .iy .l d s)
def execRes_7_mIYd_A (d : Byte) (s : State) : Result := .next (resBitIdxCopy .f7 .iy .a d s)

-- `RES b,(XY+d)` (R404).

def execRes_0_mIXd (d : Byte) (s : State) : Result := .next (resBitIdx .f0 .ix d s)
def execRes_1_mIXd (d : Byte) (s : State) : Result := .next (resBitIdx .f1 .ix d s)
def execRes_2_mIXd (d : Byte) (s : State) : Result := .next (resBitIdx .f2 .ix d s)
def execRes_3_mIXd (d : Byte) (s : State) : Result := .next (resBitIdx .f3 .ix d s)
def execRes_4_mIXd (d : Byte) (s : State) : Result := .next (resBitIdx .f4 .ix d s)
def execRes_5_mIXd (d : Byte) (s : State) : Result := .next (resBitIdx .f5 .ix d s)
def execRes_6_mIXd (d : Byte) (s : State) : Result := .next (resBitIdx .f6 .ix d s)
def execRes_7_mIXd (d : Byte) (s : State) : Result := .next (resBitIdx .f7 .ix d s)
def execRes_0_mIYd (d : Byte) (s : State) : Result := .next (resBitIdx .f0 .iy d s)
def execRes_1_mIYd (d : Byte) (s : State) : Result := .next (resBitIdx .f1 .iy d s)
def execRes_2_mIYd (d : Byte) (s : State) : Result := .next (resBitIdx .f2 .iy d s)
def execRes_3_mIYd (d : Byte) (s : State) : Result := .next (resBitIdx .f3 .iy d s)
def execRes_4_mIYd (d : Byte) (s : State) : Result := .next (resBitIdx .f4 .iy d s)
def execRes_5_mIYd (d : Byte) (s : State) : Result := .next (resBitIdx .f5 .iy d s)
def execRes_6_mIYd (d : Byte) (s : State) : Result := .next (resBitIdx .f6 .iy d s)
def execRes_7_mIYd (d : Byte) (s : State) : Result := .next (resBitIdx .f7 .iy d s)

-- `SET b,(XY+d),r` (R403).

def execSet_0_mIXd_B (d : Byte) (s : State) : Result := .next (setBitIdxCopy .f0 .ix .b d s)
def execSet_0_mIXd_C (d : Byte) (s : State) : Result := .next (setBitIdxCopy .f0 .ix .c d s)
def execSet_0_mIXd_D (d : Byte) (s : State) : Result := .next (setBitIdxCopy .f0 .ix .d d s)
def execSet_0_mIXd_E (d : Byte) (s : State) : Result := .next (setBitIdxCopy .f0 .ix .e d s)
def execSet_0_mIXd_H (d : Byte) (s : State) : Result := .next (setBitIdxCopy .f0 .ix .h d s)
def execSet_0_mIXd_L (d : Byte) (s : State) : Result := .next (setBitIdxCopy .f0 .ix .l d s)
def execSet_0_mIXd_A (d : Byte) (s : State) : Result := .next (setBitIdxCopy .f0 .ix .a d s)
def execSet_1_mIXd_B (d : Byte) (s : State) : Result := .next (setBitIdxCopy .f1 .ix .b d s)
def execSet_1_mIXd_C (d : Byte) (s : State) : Result := .next (setBitIdxCopy .f1 .ix .c d s)
def execSet_1_mIXd_D (d : Byte) (s : State) : Result := .next (setBitIdxCopy .f1 .ix .d d s)
def execSet_1_mIXd_E (d : Byte) (s : State) : Result := .next (setBitIdxCopy .f1 .ix .e d s)
def execSet_1_mIXd_H (d : Byte) (s : State) : Result := .next (setBitIdxCopy .f1 .ix .h d s)
def execSet_1_mIXd_L (d : Byte) (s : State) : Result := .next (setBitIdxCopy .f1 .ix .l d s)
def execSet_1_mIXd_A (d : Byte) (s : State) : Result := .next (setBitIdxCopy .f1 .ix .a d s)
def execSet_2_mIXd_B (d : Byte) (s : State) : Result := .next (setBitIdxCopy .f2 .ix .b d s)
def execSet_2_mIXd_C (d : Byte) (s : State) : Result := .next (setBitIdxCopy .f2 .ix .c d s)
def execSet_2_mIXd_D (d : Byte) (s : State) : Result := .next (setBitIdxCopy .f2 .ix .d d s)
def execSet_2_mIXd_E (d : Byte) (s : State) : Result := .next (setBitIdxCopy .f2 .ix .e d s)
def execSet_2_mIXd_H (d : Byte) (s : State) : Result := .next (setBitIdxCopy .f2 .ix .h d s)
def execSet_2_mIXd_L (d : Byte) (s : State) : Result := .next (setBitIdxCopy .f2 .ix .l d s)
def execSet_2_mIXd_A (d : Byte) (s : State) : Result := .next (setBitIdxCopy .f2 .ix .a d s)
def execSet_3_mIXd_B (d : Byte) (s : State) : Result := .next (setBitIdxCopy .f3 .ix .b d s)
def execSet_3_mIXd_C (d : Byte) (s : State) : Result := .next (setBitIdxCopy .f3 .ix .c d s)
def execSet_3_mIXd_D (d : Byte) (s : State) : Result := .next (setBitIdxCopy .f3 .ix .d d s)
def execSet_3_mIXd_E (d : Byte) (s : State) : Result := .next (setBitIdxCopy .f3 .ix .e d s)
def execSet_3_mIXd_H (d : Byte) (s : State) : Result := .next (setBitIdxCopy .f3 .ix .h d s)
def execSet_3_mIXd_L (d : Byte) (s : State) : Result := .next (setBitIdxCopy .f3 .ix .l d s)
def execSet_3_mIXd_A (d : Byte) (s : State) : Result := .next (setBitIdxCopy .f3 .ix .a d s)
def execSet_4_mIXd_B (d : Byte) (s : State) : Result := .next (setBitIdxCopy .f4 .ix .b d s)
def execSet_4_mIXd_C (d : Byte) (s : State) : Result := .next (setBitIdxCopy .f4 .ix .c d s)
def execSet_4_mIXd_D (d : Byte) (s : State) : Result := .next (setBitIdxCopy .f4 .ix .d d s)
def execSet_4_mIXd_E (d : Byte) (s : State) : Result := .next (setBitIdxCopy .f4 .ix .e d s)
def execSet_4_mIXd_H (d : Byte) (s : State) : Result := .next (setBitIdxCopy .f4 .ix .h d s)
def execSet_4_mIXd_L (d : Byte) (s : State) : Result := .next (setBitIdxCopy .f4 .ix .l d s)
def execSet_4_mIXd_A (d : Byte) (s : State) : Result := .next (setBitIdxCopy .f4 .ix .a d s)
def execSet_5_mIXd_B (d : Byte) (s : State) : Result := .next (setBitIdxCopy .f5 .ix .b d s)
def execSet_5_mIXd_C (d : Byte) (s : State) : Result := .next (setBitIdxCopy .f5 .ix .c d s)
def execSet_5_mIXd_D (d : Byte) (s : State) : Result := .next (setBitIdxCopy .f5 .ix .d d s)
def execSet_5_mIXd_E (d : Byte) (s : State) : Result := .next (setBitIdxCopy .f5 .ix .e d s)
def execSet_5_mIXd_H (d : Byte) (s : State) : Result := .next (setBitIdxCopy .f5 .ix .h d s)
def execSet_5_mIXd_L (d : Byte) (s : State) : Result := .next (setBitIdxCopy .f5 .ix .l d s)
def execSet_5_mIXd_A (d : Byte) (s : State) : Result := .next (setBitIdxCopy .f5 .ix .a d s)
def execSet_6_mIXd_B (d : Byte) (s : State) : Result := .next (setBitIdxCopy .f6 .ix .b d s)
def execSet_6_mIXd_C (d : Byte) (s : State) : Result := .next (setBitIdxCopy .f6 .ix .c d s)
def execSet_6_mIXd_D (d : Byte) (s : State) : Result := .next (setBitIdxCopy .f6 .ix .d d s)
def execSet_6_mIXd_E (d : Byte) (s : State) : Result := .next (setBitIdxCopy .f6 .ix .e d s)
def execSet_6_mIXd_H (d : Byte) (s : State) : Result := .next (setBitIdxCopy .f6 .ix .h d s)
def execSet_6_mIXd_L (d : Byte) (s : State) : Result := .next (setBitIdxCopy .f6 .ix .l d s)
def execSet_6_mIXd_A (d : Byte) (s : State) : Result := .next (setBitIdxCopy .f6 .ix .a d s)
def execSet_7_mIXd_B (d : Byte) (s : State) : Result := .next (setBitIdxCopy .f7 .ix .b d s)
def execSet_7_mIXd_C (d : Byte) (s : State) : Result := .next (setBitIdxCopy .f7 .ix .c d s)
def execSet_7_mIXd_D (d : Byte) (s : State) : Result := .next (setBitIdxCopy .f7 .ix .d d s)
def execSet_7_mIXd_E (d : Byte) (s : State) : Result := .next (setBitIdxCopy .f7 .ix .e d s)
def execSet_7_mIXd_H (d : Byte) (s : State) : Result := .next (setBitIdxCopy .f7 .ix .h d s)
def execSet_7_mIXd_L (d : Byte) (s : State) : Result := .next (setBitIdxCopy .f7 .ix .l d s)
def execSet_7_mIXd_A (d : Byte) (s : State) : Result := .next (setBitIdxCopy .f7 .ix .a d s)
def execSet_0_mIYd_B (d : Byte) (s : State) : Result := .next (setBitIdxCopy .f0 .iy .b d s)
def execSet_0_mIYd_C (d : Byte) (s : State) : Result := .next (setBitIdxCopy .f0 .iy .c d s)
def execSet_0_mIYd_D (d : Byte) (s : State) : Result := .next (setBitIdxCopy .f0 .iy .d d s)
def execSet_0_mIYd_E (d : Byte) (s : State) : Result := .next (setBitIdxCopy .f0 .iy .e d s)
def execSet_0_mIYd_H (d : Byte) (s : State) : Result := .next (setBitIdxCopy .f0 .iy .h d s)
def execSet_0_mIYd_L (d : Byte) (s : State) : Result := .next (setBitIdxCopy .f0 .iy .l d s)
def execSet_0_mIYd_A (d : Byte) (s : State) : Result := .next (setBitIdxCopy .f0 .iy .a d s)
def execSet_1_mIYd_B (d : Byte) (s : State) : Result := .next (setBitIdxCopy .f1 .iy .b d s)
def execSet_1_mIYd_C (d : Byte) (s : State) : Result := .next (setBitIdxCopy .f1 .iy .c d s)
def execSet_1_mIYd_D (d : Byte) (s : State) : Result := .next (setBitIdxCopy .f1 .iy .d d s)
def execSet_1_mIYd_E (d : Byte) (s : State) : Result := .next (setBitIdxCopy .f1 .iy .e d s)
def execSet_1_mIYd_H (d : Byte) (s : State) : Result := .next (setBitIdxCopy .f1 .iy .h d s)
def execSet_1_mIYd_L (d : Byte) (s : State) : Result := .next (setBitIdxCopy .f1 .iy .l d s)
def execSet_1_mIYd_A (d : Byte) (s : State) : Result := .next (setBitIdxCopy .f1 .iy .a d s)
def execSet_2_mIYd_B (d : Byte) (s : State) : Result := .next (setBitIdxCopy .f2 .iy .b d s)
def execSet_2_mIYd_C (d : Byte) (s : State) : Result := .next (setBitIdxCopy .f2 .iy .c d s)
def execSet_2_mIYd_D (d : Byte) (s : State) : Result := .next (setBitIdxCopy .f2 .iy .d d s)
def execSet_2_mIYd_E (d : Byte) (s : State) : Result := .next (setBitIdxCopy .f2 .iy .e d s)
def execSet_2_mIYd_H (d : Byte) (s : State) : Result := .next (setBitIdxCopy .f2 .iy .h d s)
def execSet_2_mIYd_L (d : Byte) (s : State) : Result := .next (setBitIdxCopy .f2 .iy .l d s)
def execSet_2_mIYd_A (d : Byte) (s : State) : Result := .next (setBitIdxCopy .f2 .iy .a d s)
def execSet_3_mIYd_B (d : Byte) (s : State) : Result := .next (setBitIdxCopy .f3 .iy .b d s)
def execSet_3_mIYd_C (d : Byte) (s : State) : Result := .next (setBitIdxCopy .f3 .iy .c d s)
def execSet_3_mIYd_D (d : Byte) (s : State) : Result := .next (setBitIdxCopy .f3 .iy .d d s)
def execSet_3_mIYd_E (d : Byte) (s : State) : Result := .next (setBitIdxCopy .f3 .iy .e d s)
def execSet_3_mIYd_H (d : Byte) (s : State) : Result := .next (setBitIdxCopy .f3 .iy .h d s)
def execSet_3_mIYd_L (d : Byte) (s : State) : Result := .next (setBitIdxCopy .f3 .iy .l d s)
def execSet_3_mIYd_A (d : Byte) (s : State) : Result := .next (setBitIdxCopy .f3 .iy .a d s)
def execSet_4_mIYd_B (d : Byte) (s : State) : Result := .next (setBitIdxCopy .f4 .iy .b d s)
def execSet_4_mIYd_C (d : Byte) (s : State) : Result := .next (setBitIdxCopy .f4 .iy .c d s)
def execSet_4_mIYd_D (d : Byte) (s : State) : Result := .next (setBitIdxCopy .f4 .iy .d d s)
def execSet_4_mIYd_E (d : Byte) (s : State) : Result := .next (setBitIdxCopy .f4 .iy .e d s)
def execSet_4_mIYd_H (d : Byte) (s : State) : Result := .next (setBitIdxCopy .f4 .iy .h d s)
def execSet_4_mIYd_L (d : Byte) (s : State) : Result := .next (setBitIdxCopy .f4 .iy .l d s)
def execSet_4_mIYd_A (d : Byte) (s : State) : Result := .next (setBitIdxCopy .f4 .iy .a d s)
def execSet_5_mIYd_B (d : Byte) (s : State) : Result := .next (setBitIdxCopy .f5 .iy .b d s)
def execSet_5_mIYd_C (d : Byte) (s : State) : Result := .next (setBitIdxCopy .f5 .iy .c d s)
def execSet_5_mIYd_D (d : Byte) (s : State) : Result := .next (setBitIdxCopy .f5 .iy .d d s)
def execSet_5_mIYd_E (d : Byte) (s : State) : Result := .next (setBitIdxCopy .f5 .iy .e d s)
def execSet_5_mIYd_H (d : Byte) (s : State) : Result := .next (setBitIdxCopy .f5 .iy .h d s)
def execSet_5_mIYd_L (d : Byte) (s : State) : Result := .next (setBitIdxCopy .f5 .iy .l d s)
def execSet_5_mIYd_A (d : Byte) (s : State) : Result := .next (setBitIdxCopy .f5 .iy .a d s)
def execSet_6_mIYd_B (d : Byte) (s : State) : Result := .next (setBitIdxCopy .f6 .iy .b d s)
def execSet_6_mIYd_C (d : Byte) (s : State) : Result := .next (setBitIdxCopy .f6 .iy .c d s)
def execSet_6_mIYd_D (d : Byte) (s : State) : Result := .next (setBitIdxCopy .f6 .iy .d d s)
def execSet_6_mIYd_E (d : Byte) (s : State) : Result := .next (setBitIdxCopy .f6 .iy .e d s)
def execSet_6_mIYd_H (d : Byte) (s : State) : Result := .next (setBitIdxCopy .f6 .iy .h d s)
def execSet_6_mIYd_L (d : Byte) (s : State) : Result := .next (setBitIdxCopy .f6 .iy .l d s)
def execSet_6_mIYd_A (d : Byte) (s : State) : Result := .next (setBitIdxCopy .f6 .iy .a d s)
def execSet_7_mIYd_B (d : Byte) (s : State) : Result := .next (setBitIdxCopy .f7 .iy .b d s)
def execSet_7_mIYd_C (d : Byte) (s : State) : Result := .next (setBitIdxCopy .f7 .iy .c d s)
def execSet_7_mIYd_D (d : Byte) (s : State) : Result := .next (setBitIdxCopy .f7 .iy .d d s)
def execSet_7_mIYd_E (d : Byte) (s : State) : Result := .next (setBitIdxCopy .f7 .iy .e d s)
def execSet_7_mIYd_H (d : Byte) (s : State) : Result := .next (setBitIdxCopy .f7 .iy .h d s)
def execSet_7_mIYd_L (d : Byte) (s : State) : Result := .next (setBitIdxCopy .f7 .iy .l d s)
def execSet_7_mIYd_A (d : Byte) (s : State) : Result := .next (setBitIdxCopy .f7 .iy .a d s)

-- `SET b,(XY+d)` (R403).

def execSet_0_mIXd (d : Byte) (s : State) : Result := .next (setBitIdx .f0 .ix d s)
def execSet_1_mIXd (d : Byte) (s : State) : Result := .next (setBitIdx .f1 .ix d s)
def execSet_2_mIXd (d : Byte) (s : State) : Result := .next (setBitIdx .f2 .ix d s)
def execSet_3_mIXd (d : Byte) (s : State) : Result := .next (setBitIdx .f3 .ix d s)
def execSet_4_mIXd (d : Byte) (s : State) : Result := .next (setBitIdx .f4 .ix d s)
def execSet_5_mIXd (d : Byte) (s : State) : Result := .next (setBitIdx .f5 .ix d s)
def execSet_6_mIXd (d : Byte) (s : State) : Result := .next (setBitIdx .f6 .ix d s)
def execSet_7_mIXd (d : Byte) (s : State) : Result := .next (setBitIdx .f7 .ix d s)
def execSet_0_mIYd (d : Byte) (s : State) : Result := .next (setBitIdx .f0 .iy d s)
def execSet_1_mIYd (d : Byte) (s : State) : Result := .next (setBitIdx .f1 .iy d s)
def execSet_2_mIYd (d : Byte) (s : State) : Result := .next (setBitIdx .f2 .iy d s)
def execSet_3_mIYd (d : Byte) (s : State) : Result := .next (setBitIdx .f3 .iy d s)
def execSet_4_mIYd (d : Byte) (s : State) : Result := .next (setBitIdx .f4 .iy d s)
def execSet_5_mIYd (d : Byte) (s : State) : Result := .next (setBitIdx .f5 .iy d s)
def execSet_6_mIYd (d : Byte) (s : State) : Result := .next (setBitIdx .f6 .iy d s)
def execSet_7_mIYd (d : Byte) (s : State) : Result := .next (setBitIdx .f7 .iy d s)

end Sys2Proof.Machine
end

