-- ==== Sys2Proof/Machine/Control.lean ====
section
/-! DEFINITION. The meanings of 44_general_cpu_control.md of the general-purpose and CPU control instructions (R330 to R341). Each meaning runs after
the instruction's bytes have been fetched: pc is past them and R has counted them (R12, R36). -/

namespace Sys2Proof.Machine

/-! ## One meaning per row of the opcode table -/

/-- `NOP` (R335). -/
def execNop (s : State) : Result := .next (s.setCycles 4)

/-- `DAA` (R330). -/
def execDaa (s : State) : Result := .next ((s.setAF (daa8 s.a s.flags)).setCycles 4)

/-- `CPL` (R331). -/
def execCpl (s : State) : Result := .next ((s.setAF (cpl8 s.a s.flags)).setCycles 4)

/-- `SCF` (R334). -/
def execScf (s : State) : Result := .next ((s.setFlags (scfFlags s.a s.flags)).setCycles 4)

/-- `CCF` (R333). -/
def execCcf (s : State) : Result := .next ((s.setFlags (ccfFlags s.a s.flags)).setCycles 4)

/-- `HALT` (R336; pc is already past the HALT). -/
def execHalt (s : State) : Result := .next { s with halted := true, cycles := 4 }

/-- `DI` (R337). -/
def execDi (s : State) : Result := .next { s with iff1 := false, iff2 := false, cycles := 4 }

/-- `EI` (R338). -/
def execEi (s : State) : Result :=
  .next { s with iff1 := true, iff2 := true, eiShadow := true, cycles := 4 }

/-- `NEG` (R332). -/
def execNeg (s : State) : Result := .next ((s.setAF (sub8 0 s.a false)).setCycles 8)

/-- `IM 0` (R339; the precondition check of the unsupported mode, at the pc of the instruction). -/
def execIm_0 (s : State) : Result := .fault (.unsupportedInterruptMode (instrStart 2 s))

/-- `IM 1` (R340; as R339). -/
def execIm_1 (s : State) : Result := .fault (.unsupportedInterruptMode (instrStart 2 s))

/-- `IM 2` (R341). -/
def execIm_2 (s : State) : Result := .next { s with im := .im2, cycles := 8 }

end Sys2Proof.Machine
end

