-- ==== Sys2Proof/Machine/ExchangeBlock.lean ====
section
/-! DEFINITION. The meanings of 42_exchange_block.md of the exchanges, block transfers and block compares (R260 to R274). Each meaning runs after
the instruction's bytes have been fetched: pc is past them and R has counted them (R12, R36). -/

namespace Sys2Proof.Machine

/-! ## Shared operations -/

/-- The exchange of a register value v with the word at SP (R263, R264): memory takes v, WZ the old
stack word; SP does not change. -/
def exSpStore (v : Word) (s : State) : State := (s.write16 s.sp v).setWZ (s.read16 s.sp)

/-- `EX (SP),XY` (R264). -/
def exSpIdx (x : Idx) (s : State) : State :=
  ((exSpStore (s.idx x) s).setIdx x (s.read16 s.sp)).setCycles 23

/-- The end of a unit of a repeating block instruction (R265): pc back to the instruction and 21
cycles where it repeats, else 16. -/
def blockRepeat (again : Bool) (s : State) : State :=
  if again then { s with pc := instrStart 2 s, cycles := 21 } else { s with cycles := 16 }

/-- The WZ of a block transfer or compare unit that repeats (R265): `start + 1`. -/
def blockRepeatWZ (again : Bool) (s : State) : State :=
  if again then { s with wz := instrStart 2 s + 1 } else s

/-- The unit of LDI and LDD (R266, R268). -/
def ldUnit (down : Bool) (s : State) : State :=
  let v := s.read8 s.hl
  let s1 := s.write8 s.de v
  let s2 := { s1 with hl := stepWord down s1.hl, de := stepWord down s1.de, bc := s1.bc - 1 }
  s2.setFlags (ldUnitFlags (v + s2.a) s2.bc s2.flags)

/-- LDI and LDD (R266, R268). -/
def ldBlock (down : Bool) (s : State) : State := (ldUnit down s).setCycles 16

/-- LDIR and LDDR (R267, R269): the unit, repeated while BC is not 0. -/
def ldBlockRepeat (down : Bool) (s : State) : State :=
  let s1 := ldUnit down s
  blockRepeat (s1.bc != 0) (blockRepeatWZ (s1.bc != 0) s1)

/-- The byte difference a block compare unit tests, `r` of R270. -/
def cpUnitDiff (s : State) : Byte := s.a - s.read8 s.hl

/-- `CmpUnit(dir)` (R270). -/
def cpUnit (down : Bool) (s : State) : State :=
  let v := s.read8 s.hl
  let s1 := { s with hl := stepWord down s.hl, bc := s.bc - 1 }
  (s1.setFlags (cpUnitFlags s1.a v s1.bc s1.flags)).setWZ (stepWord down s1.wz)

/-- CPI and CPD (R271, R273). -/
def cpBlock (down : Bool) (s : State) : State := (cpUnit down s).setCycles 16

/-- CPIR and CPDR (R272, R274): the unit, repeated while BC is not 0 and the bytes differ. -/
def cpBlockRepeat (down : Bool) (s : State) : State :=
  let s1 := cpUnit down s
  let again := s1.bc != 0 && cpUnitDiff s != 0
  blockRepeat again (blockRepeatWZ again s1)

/-! ## One meaning per row of the opcode table -/

/-- `EX AF,AF'` (R261). -/
def execEx_AF_AF (s : State) : Result := .next { s with af := s.af', af' := s.af, cycles := 4 }

/-- `EXX` (R262; WZ is exchanged too). -/
def execExx (s : State) : Result := .next { s with
    bc := s.bc', de := s.de', hl := s.hl', wz := s.wz'
    bc' := s.bc, de' := s.de, hl' := s.hl, wz' := s.wz, cycles := 4 }

/-- `EX (SP),HL` (R263). -/
def execEx_mSP_HL (s : State) : Result :=
  .next { exSpStore s.hl s with hl := s.read16 s.sp, cycles := 19 }

/-- `EX DE,HL` (R260). -/
def execEx_DE_HL (s : State) : Result := .next { s with de := s.hl, hl := s.de, cycles := 4 }

/-- `LDI` (R266). -/
def execLdi (s : State) : Result := .next (ldBlock false s)

/-- `CPI` (R271). -/
def execCpi (s : State) : Result := .next (cpBlock false s)

/-- `LDD` (R268). -/
def execLdd (s : State) : Result := .next (ldBlock true s)

/-- `CPD` (R273). -/
def execCpd (s : State) : Result := .next (cpBlock true s)

/-- `LDIR` (R267). -/
def execLdir (s : State) : Result := .next (ldBlockRepeat false s)

/-- `CPIR` (R272). -/
def execCpir (s : State) : Result := .next (cpBlockRepeat false s)

/-- `LDDR` (R269). -/
def execLddr (s : State) : Result := .next (ldBlockRepeat true s)

/-- `CPDR` (R274). -/
def execCpdr (s : State) : Result := .next (cpBlockRepeat true s)

-- `EX (SP),XY` (R264).

def execEx_mSP_IX (s : State) : Result := .next (exSpIdx .ix s)
def execEx_mSP_IY (s : State) : Result := .next (exSpIdx .iy s)

end Sys2Proof.Machine
end

