-- ==== Sys2Proof/Machine/InOut.lean ====
section
/-! DEFINITION. The meanings of 49_io.md of the input and output instructions (R450 to R461). Each meaning runs after
the instruction's bytes have been fetched: pc is past them and R has counted them (R12, R36). -/

namespace Sys2Proof.Machine

/-! ## Shared operations -/

/-- `IN A,(n)` (R450): the port is A : n. -/
def inAImm (n : Byte) (s : State) : State :=
  let port := pair s.a n
  (((s.ioRead port).setA s.ioReadValue).setWZ (port + 1)).setCycles 11

/-- `IN r,(C)` (R451): WZ uses BC as it was before the read. -/
def inReg (r : Reg8) (s : State) : State :=
  let v := s.ioReadValue
  ((((s.ioRead s.bc).setReg8 r v).setFlags { szxyp v with c := s.flags.c }).setWZ (s.bc + 1)).setCycles 12

/-- `OUT (n),A` (R456): the port is A : n, WZ is A : n + 1 with no carry into W. -/
def outImmA (n : Byte) (s : State) : State :=
  ((s.ioWrite (pair s.a n) s.a).setWZ (pair s.a (n + 1))).setCycles 11

/-- `OUT (C),r` (R457). -/
def outReg (r : Reg8) (s : State) : State :=
  ((s.ioWrite s.bc (s.reg8 r)).setWZ (s.bc + 1)).setCycles 12

/-- `BlockIn(dir)` (R452). -/
def ioInUnit (down : Bool) (s : State) : State :=
  let v := s.ioReadValue
  let s1 := (s.ioRead s.bc).setWZ (stepWord down s.bc)
  let s2 := s1.write8 s1.hl v
  let s3 := s2.setReg8 .b (s2.reg8 .b - 1)
  let s4 := { s3 with hl := stepWord down s3.hl }
  let k := v.toNat + (stepByte down (s4.reg8 .c)).toNat
  s4.setFlags (ioUnitFlags v (s4.reg8 .b) k)

/-- `BlockOut(dir)` (R458): the port is BC after B is decremented. -/
def ioOutUnit (down : Bool) (s : State) : State :=
  let v := s.read8 s.hl
  let s1 := s.setReg8 .b (s.reg8 .b - 1)
  let s2 := (s1.setWZ (stepWord down s1.bc)).ioWrite s1.bc v
  let s3 := { s2 with hl := stepWord down s2.hl }
  let k := v.toNat + (s3.reg8 .l).toNat
  s3.setFlags (ioUnitFlags v (s3.reg8 .b) k)

/-- INI and IND (R452, R454). -/
def ioInBlock (down : Bool) (s : State) : State := (ioInUnit down s).setCycles 16

/-- INIR and INDR (R453, R455): the unit, repeated while B is not 0; WZ is not re-targeted. -/
def ioInBlockRepeat (down : Bool) (s : State) : State :=
  blockRepeat ((ioInUnit down s).reg8 .b != 0) (ioInUnit down s)

/-- OUTI and OUTD (R458, R460). -/
def ioOutBlock (down : Bool) (s : State) : State := (ioOutUnit down s).setCycles 16

/-- OTIR and OTDR (R459, R461). -/
def ioOutBlockRepeat (down : Bool) (s : State) : State :=
  blockRepeat ((ioOutUnit down s).reg8 .b != 0) (ioOutUnit down s)

/-! ## One meaning per row of the opcode table -/

/-- `OUT (n),A` (R456). -/
def execOut_pn_A (n : Byte) (s : State) : Result := .next (outImmA n s)

/-- `IN A,(n)` (R450). -/
def execIn_A_pn (n : Byte) (s : State) : Result := .next (inAImm n s)

/-- `INI` (R452). -/
def execIni (s : State) : Result := .next (ioInBlock false s)

/-- `OUTI` (R458). -/
def execOuti (s : State) : Result := .next (ioOutBlock false s)

/-- `IND` (R454). -/
def execInd (s : State) : Result := .next (ioInBlock true s)

/-- `OUTD` (R460). -/
def execOutd (s : State) : Result := .next (ioOutBlock true s)

/-- `INIR` (R453). -/
def execInir (s : State) : Result := .next (ioInBlockRepeat false s)

/-- `OTIR` (R459). -/
def execOtir (s : State) : Result := .next (ioOutBlockRepeat false s)

/-- `INDR` (R455). -/
def execIndr (s : State) : Result := .next (ioInBlockRepeat true s)

/-- `OTDR` (R461). -/
def execOtdr (s : State) : Result := .next (ioOutBlockRepeat true s)

-- `IN r,(C)` (R451).

def execIn_B_pC (s : State) : Result := .next (inReg .b s)
def execIn_C_pC (s : State) : Result := .next (inReg .c s)
def execIn_D_pC (s : State) : Result := .next (inReg .d s)
def execIn_E_pC (s : State) : Result := .next (inReg .e s)
def execIn_H_pC (s : State) : Result := .next (inReg .h s)
def execIn_L_pC (s : State) : Result := .next (inReg .l s)
def execIn_A_pC (s : State) : Result := .next (inReg .a s)

-- `OUT (C),r` (R457).

def execOut_pC_B (s : State) : Result := .next (outReg .b s)
def execOut_pC_C (s : State) : Result := .next (outReg .c s)
def execOut_pC_D (s : State) : Result := .next (outReg .d s)
def execOut_pC_E (s : State) : Result := .next (outReg .e s)
def execOut_pC_H (s : State) : Result := .next (outReg .h s)
def execOut_pC_L (s : State) : Result := .next (outReg .l s)
def execOut_pC_A (s : State) : Result := .next (outReg .a s)

end Sys2Proof.Machine
end

