-- ==== Sys2Proof/Machine/JumpCall.lean ====
section
/-! DEFINITION. The meanings of 48_jump_call_return.md of the jumps, calls, returns and restarts (R420 to R434). Each meaning runs after
the instruction's bytes have been fetched: pc is past them and R has counted them (R12, R36). -/

namespace Sys2Proof.Machine

/-! ## Shared operations -/

/-- `x[WZ] <- nn; if cond(cc) then pc <- nn` (R422). -/
def jpCond (cc : Cond) (nn : Word) (s : State) : State :=
  let s1 := { s with wz := nn, cycles := 10 }
  if condHolds cc s then s1.setPC nn else s1

/-- A taken relative jump (R423, R424, R427): pc and WZ are the target. -/
def jumpRel (e : Byte) (s : State) : State := { s with pc := relTarget e s, wz := relTarget e s }

/-- `JR cc,e` (R424): WZ is written only when the jump is taken. -/
def jrCond (cc : JrCond) (e : Byte) (s : State) : State :=
  if condHolds (JrCond.toCond cc) s then (jumpRel e s).setCycles 12 else s.setCycles 7

/-- `JP (XY)` (R426). -/
def jpIdx (x : Idx) (s : State) : State := { s with pc := s.idx x, cycles := 8 }

/-- `DJNZ e` (R427). -/
def djnz (e : Byte) (s : State) : State :=
  let s1 := s.setReg8 .b (s.reg8 .b - 1)
  if s1.reg8 .b != 0 then (jumpRel e s1).setCycles 13 else s1.setCycles 8

/-- The call of nn (R428): WZ, the return address on the stack, pc. -/
def callTo (nn : Word) (s : State) : State := (({ s with wz := nn }.push16 s.pc).setPC nn).setCycles 17

/-- `CALL cc,nn` (R429): WZ takes nn even when the call is not made. -/
def callCond (cc : Cond) (nn : Word) (s : State) : State :=
  if condHolds cc s then callTo nn s else { s with wz := nn, cycles := 10 }

/-- `RET cc` (R431): SP changes only when it returns. -/
def retCond (cc : Cond) (s : State) : State :=
  if condHolds cc s then (returnFrom s).setCycles 11 else s.setCycles 5

/-- The restart target `t * 8` (R434). -/
def rstTarget (t : Field3) : Word := BitVec.ofNat 16 (8 * t.value)

/-- `RST t` (R434). -/
def rst (t : Field3) (s : State) : State :=
  { s.push16 s.pc with pc := rstTarget t, wz := rstTarget t, cycles := 11 }

/-! ## One meaning per row of the opcode table -/

/-- `DJNZ e` (R427). -/
def execDjnz_e (e : Byte) (s : State) : Result := .next (djnz e s)

/-- `JR e` (R423). -/
def execJr_e (e : Byte) (s : State) : Result := .next ((jumpRel e s).setCycles 12)

/-- `JP nn` (R421). -/
def execJp_nn (nn : Word) (s : State) : Result := .next { s with pc := nn, wz := nn, cycles := 10 }

/-- `RET` (R430). -/
def execRet (s : State) : Result := .next ((returnFrom s).setCycles 10)

/-- `CALL nn` (R428). -/
def execCall_nn (nn : Word) (s : State) : Result := .next (callTo nn s)

/-- `JP (HL)` (R425). -/
def execJp_mHL (s : State) : Result := .next { s with pc := s.hl, cycles := 4 }

/-- `RETN` (R433). -/
def execRetn (s : State) : Result := .next ((returnFromNmi s).setCycles 14)

/-- `RETI` (R432). -/
def execReti (s : State) : Result := .next ((returnFromInterrupt s).setCycles 14)

-- `JR cc,e` (R424).

def execJr_NZ_e (e : Byte) (s : State) : Result := .next (jrCond .nz e s)
def execJr_Z_e (e : Byte) (s : State) : Result := .next (jrCond .z e s)
def execJr_NC_e (e : Byte) (s : State) : Result := .next (jrCond .nc e s)
def execJr_C_e (e : Byte) (s : State) : Result := .next (jrCond .c e s)

-- `RET cc` (R431).

def execRet_NZ (s : State) : Result := .next (retCond .nz s)
def execRet_Z (s : State) : Result := .next (retCond .z s)
def execRet_NC (s : State) : Result := .next (retCond .nc s)
def execRet_C (s : State) : Result := .next (retCond .c s)
def execRet_PO (s : State) : Result := .next (retCond .po s)
def execRet_PE (s : State) : Result := .next (retCond .pe s)
def execRet_P (s : State) : Result := .next (retCond .p s)
def execRet_M (s : State) : Result := .next (retCond .m s)

-- `JP cc,nn` (R422).

def execJp_NZ_nn (nn : Word) (s : State) : Result := .next (jpCond .nz nn s)
def execJp_Z_nn (nn : Word) (s : State) : Result := .next (jpCond .z nn s)
def execJp_NC_nn (nn : Word) (s : State) : Result := .next (jpCond .nc nn s)
def execJp_C_nn (nn : Word) (s : State) : Result := .next (jpCond .c nn s)
def execJp_PO_nn (nn : Word) (s : State) : Result := .next (jpCond .po nn s)
def execJp_PE_nn (nn : Word) (s : State) : Result := .next (jpCond .pe nn s)
def execJp_P_nn (nn : Word) (s : State) : Result := .next (jpCond .p nn s)
def execJp_M_nn (nn : Word) (s : State) : Result := .next (jpCond .m nn s)

-- `CALL cc,nn` (R429).

def execCall_NZ_nn (nn : Word) (s : State) : Result := .next (callCond .nz nn s)
def execCall_Z_nn (nn : Word) (s : State) : Result := .next (callCond .z nn s)
def execCall_NC_nn (nn : Word) (s : State) : Result := .next (callCond .nc nn s)
def execCall_C_nn (nn : Word) (s : State) : Result := .next (callCond .c nn s)
def execCall_PO_nn (nn : Word) (s : State) : Result := .next (callCond .po nn s)
def execCall_PE_nn (nn : Word) (s : State) : Result := .next (callCond .pe nn s)
def execCall_P_nn (nn : Word) (s : State) : Result := .next (callCond .p nn s)
def execCall_M_nn (nn : Word) (s : State) : Result := .next (callCond .m nn s)

-- `RST t` (R434).

def execRst_00H (s : State) : Result := .next (rst .f0 s)
def execRst_08H (s : State) : Result := .next (rst .f1 s)
def execRst_10H (s : State) : Result := .next (rst .f2 s)
def execRst_18H (s : State) : Result := .next (rst .f3 s)
def execRst_20H (s : State) : Result := .next (rst .f4 s)
def execRst_28H (s : State) : Result := .next (rst .f5 s)
def execRst_30H (s : State) : Result := .next (rst .f6 s)
def execRst_38H (s : State) : Result := .next (rst .f7 s)

-- `JP (XY)` (R426).

def execJp_mIX (s : State) : Result := .next (jpIdx .ix s)
def execJp_mIY (s : State) : Result := .next (jpIdx .iy s)

end Sys2Proof.Machine
end

