-- ==== Sys2Proof/Machine/Load16.lean ====
section
/-! DEFINITION. The meanings of 41_load16.md of the 16-bit loads, PUSH and POP (R230 to R243). Each meaning runs after
the instruction's bytes have been fetched: pc is past them and R has counted them (R12, R36). -/

namespace Sys2Proof.Machine

/-! ## Shared operations -/

/-- `LD dd,nn` (R230). -/
def ldPairImm (p : PairSS) (nn : Word) (s : State) : State := (s.setPairSS p nn).setCycles 10

/-- `LD XY,nn` (R231). -/
def ldIdxImm16 (x : Idx) (nn : Word) (s : State) : State := (s.setIdx x nn).setCycles 14

/-- `LD dd,(nn)` of `cyc` cycles (R232, R233). -/
def ldPairMemIn (cyc : Nat) (p : PairSS) (nn : Word) (s : State) : State :=
  ((s.setPairSS p (s.read16 nn)).setWZ (nn + 1)).setCycles cyc

/-- `LD dd,(nn)`, the ED form (R233). -/
def ldPairMem (p : PairSS) (nn : Word) (s : State) : State := ldPairMemIn 20 p nn s

/-- `LD XY,(nn)` (R234). -/
def ldIdxMem (x : Idx) (nn : Word) (s : State) : State :=
  ((s.setIdx x (s.read16 nn)).setWZ (nn + 1)).setCycles 20

/-- A store of the word v at nn in `cyc` cycles (R235, R236, R237). -/
def ldMemWordIn (cyc : Nat) (nn v : Word) (s : State) : State :=
  ((s.write16 nn v).setWZ (nn + 1)).setCycles cyc

/-- `LD (nn),dd`, the ED form (R236). -/
def ldMemPair (p : PairSS) (nn : Word) (s : State) : State := ldMemWordIn 20 nn (s.pairSS p) s

/-- `LD (nn),XY` (R237). -/
def ldMemIdx (x : Idx) (nn : Word) (s : State) : State := ldMemWordIn 20 nn (s.idx x) s

/-- `LD SP,XY` (R239). -/
def ldSpIdx (x : Idx) (s : State) : State := { s with sp := s.idx x, cycles := 10 }

/-- `PUSH qq` (R240). -/
def pushPair (p : PairQQ) (s : State) : State := (s.push16 (s.pairQQ p)).setCycles 11

/-- `PUSH XY` (R241). -/
def pushIdx (x : Idx) (s : State) : State := (s.push16 (s.idx x)).setCycles 15

/-- `POP qq` (R242); `POP AF` writes all eight bits of F. -/
def popPair (p : PairQQ) (s : State) : State := (s.popState.setPairQQ p s.popValue).setCycles 10

/-- `POP XY` (R243). -/
def popIdx (x : Idx) (s : State) : State := (s.popState.setIdx x s.popValue).setCycles 14

/-! ## One meaning per row of the opcode table -/

/-- `LD (nn),HL` (R235). -/
def execLd_mnn_HL (nn : Word) (s : State) : Result := .next (ldMemWordIn 16 nn s.hl s)

/-- `LD HL,(nn)` (R232). -/
def execLd_HL_mnn (nn : Word) (s : State) : Result := .next (ldPairMemIn 16 .hl nn s)

/-- `LD SP,HL` (R238). -/
def execLd_SP_HL (s : State) : Result := .next { s with sp := s.hl, cycles := 6 }

-- `LD dd,nn` (R230).

def execLd_BC_nn (nn : Word) (s : State) : Result := .next (ldPairImm .bc nn s)
def execLd_DE_nn (nn : Word) (s : State) : Result := .next (ldPairImm .de nn s)
def execLd_HL_nn (nn : Word) (s : State) : Result := .next (ldPairImm .hl nn s)
def execLd_SP_nn (nn : Word) (s : State) : Result := .next (ldPairImm .sp nn s)

-- `POP qq` (R242).

def execPop_BC (s : State) : Result := .next (popPair .bc s)
def execPop_DE (s : State) : Result := .next (popPair .de s)
def execPop_HL (s : State) : Result := .next (popPair .hl s)
def execPop_AF (s : State) : Result := .next (popPair .af s)

-- `PUSH qq` (R240).

def execPush_BC (s : State) : Result := .next (pushPair .bc s)
def execPush_DE (s : State) : Result := .next (pushPair .de s)
def execPush_HL (s : State) : Result := .next (pushPair .hl s)
def execPush_AF (s : State) : Result := .next (pushPair .af s)

-- `LD (nn),dd`, the ED form (R236).

def execLd_mnn_BC (nn : Word) (s : State) : Result := .next (ldMemPair .bc nn s)
def execLd_mnn_DE (nn : Word) (s : State) : Result := .next (ldMemPair .de nn s)
def execLd_mnn_HL_ed (nn : Word) (s : State) : Result := .next (ldMemPair .hl nn s)
def execLd_mnn_SP (nn : Word) (s : State) : Result := .next (ldMemPair .sp nn s)

-- `LD dd,(nn)`, the ED form (R233).

def execLd_BC_mnn (nn : Word) (s : State) : Result := .next (ldPairMem .bc nn s)
def execLd_DE_mnn (nn : Word) (s : State) : Result := .next (ldPairMem .de nn s)
def execLd_HL_mnn_ed (nn : Word) (s : State) : Result := .next (ldPairMem .hl nn s)
def execLd_SP_mnn (nn : Word) (s : State) : Result := .next (ldPairMem .sp nn s)

-- `LD XY,nn` (R231).

def execLd_IX_nn (nn : Word) (s : State) : Result := .next (ldIdxImm16 .ix nn s)
def execLd_IY_nn (nn : Word) (s : State) : Result := .next (ldIdxImm16 .iy nn s)

-- `LD (nn),XY` (R237).

def execLd_mnn_IX (nn : Word) (s : State) : Result := .next (ldMemIdx .ix nn s)
def execLd_mnn_IY (nn : Word) (s : State) : Result := .next (ldMemIdx .iy nn s)

-- `LD XY,(nn)` (R234).

def execLd_IX_mnn (nn : Word) (s : State) : Result := .next (ldIdxMem .ix nn s)
def execLd_IY_mnn (nn : Word) (s : State) : Result := .next (ldIdxMem .iy nn s)

-- `POP XY` (R243).

def execPop_IX (s : State) : Result := .next (popIdx .ix s)
def execPop_IY (s : State) : Result := .next (popIdx .iy s)

-- `PUSH XY` (R241).

def execPush_IX (s : State) : Result := .next (pushIdx .ix s)
def execPush_IY (s : State) : Result := .next (pushIdx .iy s)

-- `LD SP,XY` (R239).

def execLd_SP_IX (s : State) : Result := .next (ldSpIdx .ix s)
def execLd_SP_IY (s : State) : Result := .next (ldSpIdx .iy s)

end Sys2Proof.Machine
end

