-- ==== Sys2Proof/Machine/Load8.lean ====
section
/-! DEFINITION. The meanings of 40_load8.md of the 8-bit loads (R200 to R219). Each meaning runs after
the instruction's bytes have been fetched: pc is past them and R has counted them (R12, R36). -/

namespace Sys2Proof.Machine

/-! ## Shared operations -/

/-- `LD r,r'` (R200). -/
def ldRegReg (dst r : Reg8) (s : State) : State := (s.setReg8 dst (s.reg8 r)).setCycles 4

/-- `LD r,n` (R201). -/
def ldRegImm (r : Reg8) (n : Byte) (s : State) : State := (s.setReg8 r n).setCycles 7

/-- `LD r,(HL)` (R202). -/
def ldRegMem (r : Reg8) (s : State) : State := (s.setReg8 r (s.read8 s.hl)).setCycles 7

/-- `LD r,(XY+d)` (R203). -/
def ldRegIdx (r : Reg8) (x : Idx) (d : Byte) (s : State) : State :=
  ((latchEA x d s).setReg8 r (s.read8 (effAddr x d s))).setCycles 19

/-- `LD (HL),r` (R204). -/
def ldMemReg (r : Reg8) (s : State) : State := (s.write8 s.hl (s.reg8 r)).setCycles 7

/-- `LD (XY+d),r` (R205). -/
def ldIdxReg (x : Idx) (r : Reg8) (d : Byte) (s : State) : State :=
  ((latchEA x d s).write8 (effAddr x d s) (s.reg8 r)).setCycles 19

/-- `LD (XY+d),n` (R207). -/
def ldIdxImm (x : Idx) (d n : Byte) (s : State) : State :=
  ((latchEA x d s).write8 (effAddr x d s) n).setCycles 19

/-- `LD A,(BC)` and `LD A,(DE)` (R208, R209), the address in `a`. -/
def ldAMemPair (a : Word) (s : State) : State :=
  ((s.setA (s.read8 a)).setWZ (a + 1)).setCycles 7

/-- `LD (BC),A` and `LD (DE),A` (R211, R212), the address in `a`: W takes A, Z the low byte of a + 1. -/
def ldMemPairA (a : Word) (s : State) : State :=
  ((s.write8 a s.a).setWZ (pair s.a (lo a + 1))).setCycles 7

/-- A load of A from I or R (R214, R215): PV is IFF2, C stays. -/
def ldASpecial (v : Byte) (s : State) : State :=
  (s.setAF (v, { szxy v with pv := s.iff2, c := s.flags.c })).setCycles 9

/-- `LD rx,rx'` between index halves (R218). -/
def ldHalfHalf (x : Idx) (k k' : Half) (s : State) : State :=
  (s.setHalf x k (s.half x k')).setCycles 8

/-- `LD rx,rx'` into an index half (R218). -/
def ldHalfReg (x : Idx) (k : Half) (r : PlainReg) (s : State) : State :=
  (s.setHalf x k (s.reg8 (PlainReg.toReg8 r))).setCycles 8

/-- `LD rx,rx'` from an index half (R218). -/
def ldRegHalf (r : PlainReg) (x : Idx) (k : Half) (s : State) : State :=
  (s.setReg8 (PlainReg.toReg8 r) (s.half x k)).setCycles 8

/-- `LD rx,n` (R219). -/
def ldHalfImm (x : Idx) (k : Half) (n : Byte) (s : State) : State := (s.setHalf x k n).setCycles 11

/-! ## One meaning per row of the opcode table -/

/-- `LD (BC),A` (R211). -/
def execLd_mBC_A (s : State) : Result := .next (ldMemPairA s.bc s)

/-- `LD A,(BC)` (R208). -/
def execLd_A_mBC (s : State) : Result := .next (ldAMemPair s.bc s)

/-- `LD (DE),A` (R212). -/
def execLd_mDE_A (s : State) : Result := .next (ldMemPairA s.de s)

/-- `LD A,(DE)` (R209). -/
def execLd_A_mDE (s : State) : Result := .next (ldAMemPair s.de s)

/-- `LD (nn),A` (R213). -/
def execLd_mnn_A (nn : Word) (s : State) : Result :=
  .next (((s.write8 nn s.a).setWZ (pair s.a (lo nn + 1))).setCycles 13)

/-- `LD (HL),n` (R206). -/
def execLd_mHL_n (n : Byte) (s : State) : Result := .next ((s.write8 s.hl n).setCycles 10)

/-- `LD A,(nn)` (R210). -/
def execLd_A_mnn (nn : Word) (s : State) : Result :=
  .next (((s.setA (s.read8 nn)).setWZ (nn + 1)).setCycles 13)

/-- `LD I,A` (R216). -/
def execLd_I_A (s : State) : Result := .next { s with i := s.a, cycles := 9 }

/-- `LD R,A` (R217; all eight bits, after the instruction's own increments). -/
def execLd_R_A (s : State) : Result := .next { s with r := s.a, cycles := 9 }

/-- `LD A,I` (R214). -/
def execLd_A_I (s : State) : Result := .next (ldASpecial s.i s)

/-- `LD A,R` (R215; R already holds the two increments of this instruction's fetches). -/
def execLd_A_R (s : State) : Result := .next (ldASpecial s.r s)

-- `LD r,n` (R201).

def execLd_B_n (n : Byte) (s : State) : Result := .next (ldRegImm .b n s)
def execLd_C_n (n : Byte) (s : State) : Result := .next (ldRegImm .c n s)
def execLd_D_n (n : Byte) (s : State) : Result := .next (ldRegImm .d n s)
def execLd_E_n (n : Byte) (s : State) : Result := .next (ldRegImm .e n s)
def execLd_H_n (n : Byte) (s : State) : Result := .next (ldRegImm .h n s)
def execLd_L_n (n : Byte) (s : State) : Result := .next (ldRegImm .l n s)
def execLd_A_n (n : Byte) (s : State) : Result := .next (ldRegImm .a n s)

-- `LD r,r'` (R200).

def execLd_B_B (s : State) : Result := .next (ldRegReg .b .b s)
def execLd_B_C (s : State) : Result := .next (ldRegReg .b .c s)
def execLd_B_D (s : State) : Result := .next (ldRegReg .b .d s)
def execLd_B_E (s : State) : Result := .next (ldRegReg .b .e s)
def execLd_B_H (s : State) : Result := .next (ldRegReg .b .h s)
def execLd_B_L (s : State) : Result := .next (ldRegReg .b .l s)
def execLd_B_A (s : State) : Result := .next (ldRegReg .b .a s)
def execLd_C_B (s : State) : Result := .next (ldRegReg .c .b s)
def execLd_C_C (s : State) : Result := .next (ldRegReg .c .c s)
def execLd_C_D (s : State) : Result := .next (ldRegReg .c .d s)
def execLd_C_E (s : State) : Result := .next (ldRegReg .c .e s)
def execLd_C_H (s : State) : Result := .next (ldRegReg .c .h s)
def execLd_C_L (s : State) : Result := .next (ldRegReg .c .l s)
def execLd_C_A (s : State) : Result := .next (ldRegReg .c .a s)
def execLd_D_B (s : State) : Result := .next (ldRegReg .d .b s)
def execLd_D_C (s : State) : Result := .next (ldRegReg .d .c s)
def execLd_D_D (s : State) : Result := .next (ldRegReg .d .d s)
def execLd_D_E (s : State) : Result := .next (ldRegReg .d .e s)
def execLd_D_H (s : State) : Result := .next (ldRegReg .d .h s)
def execLd_D_L (s : State) : Result := .next (ldRegReg .d .l s)
def execLd_D_A (s : State) : Result := .next (ldRegReg .d .a s)
def execLd_E_B (s : State) : Result := .next (ldRegReg .e .b s)
def execLd_E_C (s : State) : Result := .next (ldRegReg .e .c s)
def execLd_E_D (s : State) : Result := .next (ldRegReg .e .d s)
def execLd_E_E (s : State) : Result := .next (ldRegReg .e .e s)
def execLd_E_H (s : State) : Result := .next (ldRegReg .e .h s)
def execLd_E_L (s : State) : Result := .next (ldRegReg .e .l s)
def execLd_E_A (s : State) : Result := .next (ldRegReg .e .a s)
def execLd_H_B (s : State) : Result := .next (ldRegReg .h .b s)
def execLd_H_C (s : State) : Result := .next (ldRegReg .h .c s)
def execLd_H_D (s : State) : Result := .next (ldRegReg .h .d s)
def execLd_H_E (s : State) : Result := .next (ldRegReg .h .e s)
def execLd_H_H (s : State) : Result := .next (ldRegReg .h .h s)
def execLd_H_L (s : State) : Result := .next (ldRegReg .h .l s)
def execLd_H_A (s : State) : Result := .next (ldRegReg .h .a s)
def execLd_L_B (s : State) : Result := .next (ldRegReg .l .b s)
def execLd_L_C (s : State) : Result := .next (ldRegReg .l .c s)
def execLd_L_D (s : State) : Result := .next (ldRegReg .l .d s)
def execLd_L_E (s : State) : Result := .next (ldRegReg .l .e s)
def execLd_L_H (s : State) : Result := .next (ldRegReg .l .h s)
def execLd_L_L (s : State) : Result := .next (ldRegReg .l .l s)
def execLd_L_A (s : State) : Result := .next (ldRegReg .l .a s)
def execLd_A_B (s : State) : Result := .next (ldRegReg .a .b s)
def execLd_A_C (s : State) : Result := .next (ldRegReg .a .c s)
def execLd_A_D (s : State) : Result := .next (ldRegReg .a .d s)
def execLd_A_E (s : State) : Result := .next (ldRegReg .a .e s)
def execLd_A_H (s : State) : Result := .next (ldRegReg .a .h s)
def execLd_A_L (s : State) : Result := .next (ldRegReg .a .l s)
def execLd_A_A (s : State) : Result := .next (ldRegReg .a .a s)

-- `LD r,(HL)` (R202).

def execLd_B_mHL (s : State) : Result := .next (ldRegMem .b s)
def execLd_C_mHL (s : State) : Result := .next (ldRegMem .c s)
def execLd_D_mHL (s : State) : Result := .next (ldRegMem .d s)
def execLd_E_mHL (s : State) : Result := .next (ldRegMem .e s)
def execLd_H_mHL (s : State) : Result := .next (ldRegMem .h s)
def execLd_L_mHL (s : State) : Result := .next (ldRegMem .l s)
def execLd_A_mHL (s : State) : Result := .next (ldRegMem .a s)

-- `LD (HL),r` (R204).

def execLd_mHL_B (s : State) : Result := .next (ldMemReg .b s)
def execLd_mHL_C (s : State) : Result := .next (ldMemReg .c s)
def execLd_mHL_D (s : State) : Result := .next (ldMemReg .d s)
def execLd_mHL_E (s : State) : Result := .next (ldMemReg .e s)
def execLd_mHL_H (s : State) : Result := .next (ldMemReg .h s)
def execLd_mHL_L (s : State) : Result := .next (ldMemReg .l s)
def execLd_mHL_A (s : State) : Result := .next (ldMemReg .a s)

-- `LD rx,n` (R219).

def execLd_IXH_n (n : Byte) (s : State) : Result := .next (ldHalfImm .ix .high n s)
def execLd_IXL_n (n : Byte) (s : State) : Result := .next (ldHalfImm .ix .low n s)
def execLd_IYH_n (n : Byte) (s : State) : Result := .next (ldHalfImm .iy .high n s)
def execLd_IYL_n (n : Byte) (s : State) : Result := .next (ldHalfImm .iy .low n s)

-- `LD (XY+d),n` (R207).

def execLd_mIXd_n (d : Byte) (n : Byte) (s : State) : Result := .next (ldIdxImm .ix d n s)
def execLd_mIYd_n (d : Byte) (n : Byte) (s : State) : Result := .next (ldIdxImm .iy d n s)

-- `LD rx,rx'` from an index half (R218).

def execLd_B_IXH (s : State) : Result := .next (ldRegHalf .b .ix .high s)
def execLd_B_IXL (s : State) : Result := .next (ldRegHalf .b .ix .low s)
def execLd_C_IXH (s : State) : Result := .next (ldRegHalf .c .ix .high s)
def execLd_C_IXL (s : State) : Result := .next (ldRegHalf .c .ix .low s)
def execLd_D_IXH (s : State) : Result := .next (ldRegHalf .d .ix .high s)
def execLd_D_IXL (s : State) : Result := .next (ldRegHalf .d .ix .low s)
def execLd_E_IXH (s : State) : Result := .next (ldRegHalf .e .ix .high s)
def execLd_E_IXL (s : State) : Result := .next (ldRegHalf .e .ix .low s)
def execLd_A_IXH (s : State) : Result := .next (ldRegHalf .a .ix .high s)
def execLd_A_IXL (s : State) : Result := .next (ldRegHalf .a .ix .low s)
def execLd_B_IYH (s : State) : Result := .next (ldRegHalf .b .iy .high s)
def execLd_B_IYL (s : State) : Result := .next (ldRegHalf .b .iy .low s)
def execLd_C_IYH (s : State) : Result := .next (ldRegHalf .c .iy .high s)
def execLd_C_IYL (s : State) : Result := .next (ldRegHalf .c .iy .low s)
def execLd_D_IYH (s : State) : Result := .next (ldRegHalf .d .iy .high s)
def execLd_D_IYL (s : State) : Result := .next (ldRegHalf .d .iy .low s)
def execLd_E_IYH (s : State) : Result := .next (ldRegHalf .e .iy .high s)
def execLd_E_IYL (s : State) : Result := .next (ldRegHalf .e .iy .low s)
def execLd_A_IYH (s : State) : Result := .next (ldRegHalf .a .iy .high s)
def execLd_A_IYL (s : State) : Result := .next (ldRegHalf .a .iy .low s)

-- `LD r,(XY+d)` (R203).

def execLd_B_mIXd (d : Byte) (s : State) : Result := .next (ldRegIdx .b .ix d s)
def execLd_C_mIXd (d : Byte) (s : State) : Result := .next (ldRegIdx .c .ix d s)
def execLd_D_mIXd (d : Byte) (s : State) : Result := .next (ldRegIdx .d .ix d s)
def execLd_E_mIXd (d : Byte) (s : State) : Result := .next (ldRegIdx .e .ix d s)
def execLd_H_mIXd (d : Byte) (s : State) : Result := .next (ldRegIdx .h .ix d s)
def execLd_L_mIXd (d : Byte) (s : State) : Result := .next (ldRegIdx .l .ix d s)
def execLd_A_mIXd (d : Byte) (s : State) : Result := .next (ldRegIdx .a .ix d s)
def execLd_B_mIYd (d : Byte) (s : State) : Result := .next (ldRegIdx .b .iy d s)
def execLd_C_mIYd (d : Byte) (s : State) : Result := .next (ldRegIdx .c .iy d s)
def execLd_D_mIYd (d : Byte) (s : State) : Result := .next (ldRegIdx .d .iy d s)
def execLd_E_mIYd (d : Byte) (s : State) : Result := .next (ldRegIdx .e .iy d s)
def execLd_H_mIYd (d : Byte) (s : State) : Result := .next (ldRegIdx .h .iy d s)
def execLd_L_mIYd (d : Byte) (s : State) : Result := .next (ldRegIdx .l .iy d s)
def execLd_A_mIYd (d : Byte) (s : State) : Result := .next (ldRegIdx .a .iy d s)

-- `LD rx,rx'` into an index half (R218).

def execLd_IXH_B (s : State) : Result := .next (ldHalfReg .ix .high .b s)
def execLd_IXH_C (s : State) : Result := .next (ldHalfReg .ix .high .c s)
def execLd_IXH_D (s : State) : Result := .next (ldHalfReg .ix .high .d s)
def execLd_IXH_E (s : State) : Result := .next (ldHalfReg .ix .high .e s)
def execLd_IXH_A (s : State) : Result := .next (ldHalfReg .ix .high .a s)
def execLd_IXL_B (s : State) : Result := .next (ldHalfReg .ix .low .b s)
def execLd_IXL_C (s : State) : Result := .next (ldHalfReg .ix .low .c s)
def execLd_IXL_D (s : State) : Result := .next (ldHalfReg .ix .low .d s)
def execLd_IXL_E (s : State) : Result := .next (ldHalfReg .ix .low .e s)
def execLd_IXL_A (s : State) : Result := .next (ldHalfReg .ix .low .a s)
def execLd_IYH_B (s : State) : Result := .next (ldHalfReg .iy .high .b s)
def execLd_IYH_C (s : State) : Result := .next (ldHalfReg .iy .high .c s)
def execLd_IYH_D (s : State) : Result := .next (ldHalfReg .iy .high .d s)
def execLd_IYH_E (s : State) : Result := .next (ldHalfReg .iy .high .e s)
def execLd_IYH_A (s : State) : Result := .next (ldHalfReg .iy .high .a s)
def execLd_IYL_B (s : State) : Result := .next (ldHalfReg .iy .low .b s)
def execLd_IYL_C (s : State) : Result := .next (ldHalfReg .iy .low .c s)
def execLd_IYL_D (s : State) : Result := .next (ldHalfReg .iy .low .d s)
def execLd_IYL_E (s : State) : Result := .next (ldHalfReg .iy .low .e s)
def execLd_IYL_A (s : State) : Result := .next (ldHalfReg .iy .low .a s)

-- `LD rx,rx'` with both operands index halves (R218).

def execLd_IXH_IXH (s : State) : Result := .next (ldHalfHalf .ix .high .high s)
def execLd_IXH_IXL (s : State) : Result := .next (ldHalfHalf .ix .high .low s)
def execLd_IXL_IXH (s : State) : Result := .next (ldHalfHalf .ix .low .high s)
def execLd_IXL_IXL (s : State) : Result := .next (ldHalfHalf .ix .low .low s)
def execLd_IYH_IYH (s : State) : Result := .next (ldHalfHalf .iy .high .high s)
def execLd_IYH_IYL (s : State) : Result := .next (ldHalfHalf .iy .high .low s)
def execLd_IYL_IYH (s : State) : Result := .next (ldHalfHalf .iy .low .high s)
def execLd_IYL_IYL (s : State) : Result := .next (ldHalfHalf .iy .low .low s)

-- `LD (XY+d),r` (R205).

def execLd_mIXd_B (d : Byte) (s : State) : Result := .next (ldIdxReg .ix .b d s)
def execLd_mIXd_C (d : Byte) (s : State) : Result := .next (ldIdxReg .ix .c d s)
def execLd_mIXd_D (d : Byte) (s : State) : Result := .next (ldIdxReg .ix .d d s)
def execLd_mIXd_E (d : Byte) (s : State) : Result := .next (ldIdxReg .ix .e d s)
def execLd_mIXd_H (d : Byte) (s : State) : Result := .next (ldIdxReg .ix .h d s)
def execLd_mIXd_L (d : Byte) (s : State) : Result := .next (ldIdxReg .ix .l d s)
def execLd_mIXd_A (d : Byte) (s : State) : Result := .next (ldIdxReg .ix .a d s)
def execLd_mIYd_B (d : Byte) (s : State) : Result := .next (ldIdxReg .iy .b d s)
def execLd_mIYd_C (d : Byte) (s : State) : Result := .next (ldIdxReg .iy .c d s)
def execLd_mIYd_D (d : Byte) (s : State) : Result := .next (ldIdxReg .iy .d d s)
def execLd_mIYd_E (d : Byte) (s : State) : Result := .next (ldIdxReg .iy .e d s)
def execLd_mIYd_H (d : Byte) (s : State) : Result := .next (ldIdxReg .iy .h d s)
def execLd_mIYd_L (d : Byte) (s : State) : Result := .next (ldIdxReg .iy .l d s)
def execLd_mIYd_A (d : Byte) (s : State) : Result := .next (ldIdxReg .iy .a d s)

end Sys2Proof.Machine
end

