-- ==== Sys2Proof/Machine/RotateShift.lean ====
section
/-! DEFINITION. The meanings of 46_rotate_shift.md of the rotates and shifts (R380 to R396). Each meaning runs after
the instruction's bytes have been fetched: pc is past them and R has counted them (R12, R36). -/

namespace Sys2Proof.Machine

/-! ## Shared operations -/

/-- An accumulator rotate, the preserve form (R380 to R384). -/
def rotA (k : RotOp) (s : State) : State :=
  let rc := rot k s.a s.flags.c
  (s.setAF (rc.1, rotPreserve rc.1 rc.2 s.flags)).setCycles 4

/-- The result of a CB rotate or shift of v (R385). -/
def rotResult (k : RotOp) (v : Byte) (s : State) : Byte := (rot k v s.flags.c).1

/-- The flags of a CB rotate or shift of v, the recompute form (R384). -/
def rotFlags (k : RotOp) (v : Byte) (s : State) : Flags :=
  rotRecompute (rot k v s.flags.c).1 (rot k v s.flags.c).2

/-- A CB rotate or shift of a register (R385). -/
def rotReg (k : RotOp) (r : Reg8) (s : State) : State :=
  ((s.setReg8 r (rotResult k (s.reg8 r) s)).setFlags (rotFlags k (s.reg8 r) s)).setCycles 8

/-- A CB rotate or shift of the byte at `a` (R385). -/
def rotAt (k : RotOp) (a : Word) (s : State) : State :=
  (s.write8 a (rotResult k (s.read8 a) s)).setFlags (rotFlags k (s.read8 a) s)

/-- A CB rotate or shift of (HL) (R385). -/
def rotMem (k : RotOp) (s : State) : State := (rotAt k s.hl s).setCycles 15

/-- A rotate or shift of (XY+d), the documented form (R385). -/
def rotIdx (k : RotOp) (x : Idx) (d : Byte) (s : State) : State :=
  (rotAt k (effAddr x d s) (latchEA x d s)).setCycles 23

/-- A rotate or shift of (XY+d) with the copy to r (R385): memory first, then the register. -/
def rotIdxCopy (k : RotOp) (x : Idx) (r : Reg8) (d : Byte) (s : State) : State :=
  let v := s.read8 (effAddr x d s)
  (((latchEA x d s).write8 (effAddr x d s) (rotResult k v s)).setReg8 r (rotResult k v s)
    |>.setFlags (rotFlags k v s)).setCycles 23

/-- The end of RLD and RRD (R395, R396): the new byte at HL, the new A, its flags, and WZ. -/
def digitRotate (mem acc : Byte) (s : State) : State :=
  (((s.write8 s.hl mem).setAF (acc, { szxyp acc with c := s.flags.c })).setWZ (s.hl + 1)).setCycles 18

/-! ## One meaning per row of the opcode table -/

/-- `RLCA` (R380). -/
def execRlca (s : State) : Result := .next (rotA .rlc s)

/-- `RRCA` (R382). -/
def execRrca (s : State) : Result := .next (rotA .rrc s)

/-- `RLA` (R381). -/
def execRla (s : State) : Result := .next (rotA .rl s)

/-- `RRA` (R383). -/
def execRra (s : State) : Result := .next (rotA .rr s)

/-- `RRD` (R396). -/
def execRrd (s : State) : Result :=
  let t := s.read8 s.hl
  .next (digitRotate ((s.a <<< 4) ||| (t >>> 4)) ((s.a &&& 0xF0) ||| (t &&& 0x0F)) s)

/-- `RLD` (R395). -/
def execRld (s : State) : Result :=
  let t := s.read8 s.hl
  .next (digitRotate ((t <<< 4) ||| (s.a &&& 0x0F)) ((s.a &&& 0xF0) ||| (t >>> 4)) s)

-- The CB rotates and shifts of a register (R385 to R393).

def execRlc_B (s : State) : Result := .next (rotReg .rlc .b s)
def execRlc_C (s : State) : Result := .next (rotReg .rlc .c s)
def execRlc_D (s : State) : Result := .next (rotReg .rlc .d s)
def execRlc_E (s : State) : Result := .next (rotReg .rlc .e s)
def execRlc_H (s : State) : Result := .next (rotReg .rlc .h s)
def execRlc_L (s : State) : Result := .next (rotReg .rlc .l s)
def execRlc_A (s : State) : Result := .next (rotReg .rlc .a s)
def execRrc_B (s : State) : Result := .next (rotReg .rrc .b s)
def execRrc_C (s : State) : Result := .next (rotReg .rrc .c s)
def execRrc_D (s : State) : Result := .next (rotReg .rrc .d s)
def execRrc_E (s : State) : Result := .next (rotReg .rrc .e s)
def execRrc_H (s : State) : Result := .next (rotReg .rrc .h s)
def execRrc_L (s : State) : Result := .next (rotReg .rrc .l s)
def execRrc_A (s : State) : Result := .next (rotReg .rrc .a s)
def execRl_B (s : State) : Result := .next (rotReg .rl .b s)
def execRl_C (s : State) : Result := .next (rotReg .rl .c s)
def execRl_D (s : State) : Result := .next (rotReg .rl .d s)
def execRl_E (s : State) : Result := .next (rotReg .rl .e s)
def execRl_H (s : State) : Result := .next (rotReg .rl .h s)
def execRl_L (s : State) : Result := .next (rotReg .rl .l s)
def execRl_A (s : State) : Result := .next (rotReg .rl .a s)
def execRr_B (s : State) : Result := .next (rotReg .rr .b s)
def execRr_C (s : State) : Result := .next (rotReg .rr .c s)
def execRr_D (s : State) : Result := .next (rotReg .rr .d s)
def execRr_E (s : State) : Result := .next (rotReg .rr .e s)
def execRr_H (s : State) : Result := .next (rotReg .rr .h s)
def execRr_L (s : State) : Result := .next (rotReg .rr .l s)
def execRr_A (s : State) : Result := .next (rotReg .rr .a s)
def execSla_B (s : State) : Result := .next (rotReg .sla .b s)
def execSla_C (s : State) : Result := .next (rotReg .sla .c s)
def execSla_D (s : State) : Result := .next (rotReg .sla .d s)
def execSla_E (s : State) : Result := .next (rotReg .sla .e s)
def execSla_H (s : State) : Result := .next (rotReg .sla .h s)
def execSla_L (s : State) : Result := .next (rotReg .sla .l s)
def execSla_A (s : State) : Result := .next (rotReg .sla .a s)
def execSra_B (s : State) : Result := .next (rotReg .sra .b s)
def execSra_C (s : State) : Result := .next (rotReg .sra .c s)
def execSra_D (s : State) : Result := .next (rotReg .sra .d s)
def execSra_E (s : State) : Result := .next (rotReg .sra .e s)
def execSra_H (s : State) : Result := .next (rotReg .sra .h s)
def execSra_L (s : State) : Result := .next (rotReg .sra .l s)
def execSra_A (s : State) : Result := .next (rotReg .sra .a s)
def execSll_B (s : State) : Result := .next (rotReg .sll .b s)
def execSll_C (s : State) : Result := .next (rotReg .sll .c s)
def execSll_D (s : State) : Result := .next (rotReg .sll .d s)
def execSll_E (s : State) : Result := .next (rotReg .sll .e s)
def execSll_H (s : State) : Result := .next (rotReg .sll .h s)
def execSll_L (s : State) : Result := .next (rotReg .sll .l s)
def execSll_A (s : State) : Result := .next (rotReg .sll .a s)
def execSrl_B (s : State) : Result := .next (rotReg .srl .b s)
def execSrl_C (s : State) : Result := .next (rotReg .srl .c s)
def execSrl_D (s : State) : Result := .next (rotReg .srl .d s)
def execSrl_E (s : State) : Result := .next (rotReg .srl .e s)
def execSrl_H (s : State) : Result := .next (rotReg .srl .h s)
def execSrl_L (s : State) : Result := .next (rotReg .srl .l s)
def execSrl_A (s : State) : Result := .next (rotReg .srl .a s)

-- The CB rotates and shifts of (HL) (R385 to R393).

def execRlc_mHL (s : State) : Result := .next (rotMem .rlc s)
def execRrc_mHL (s : State) : Result := .next (rotMem .rrc s)
def execRl_mHL (s : State) : Result := .next (rotMem .rl s)
def execRr_mHL (s : State) : Result := .next (rotMem .rr s)
def execSla_mHL (s : State) : Result := .next (rotMem .sla s)
def execSra_mHL (s : State) : Result := .next (rotMem .sra s)
def execSll_mHL (s : State) : Result := .next (rotMem .sll s)
def execSrl_mHL (s : State) : Result := .next (rotMem .srl s)

-- The rotates and shifts of (XY+d) with a copy to r (R385 to R393).

def execRlc_mIXd_B (d : Byte) (s : State) : Result := .next (rotIdxCopy .rlc .ix .b d s)
def execRlc_mIXd_C (d : Byte) (s : State) : Result := .next (rotIdxCopy .rlc .ix .c d s)
def execRlc_mIXd_D (d : Byte) (s : State) : Result := .next (rotIdxCopy .rlc .ix .d d s)
def execRlc_mIXd_E (d : Byte) (s : State) : Result := .next (rotIdxCopy .rlc .ix .e d s)
def execRlc_mIXd_H (d : Byte) (s : State) : Result := .next (rotIdxCopy .rlc .ix .h d s)
def execRlc_mIXd_L (d : Byte) (s : State) : Result := .next (rotIdxCopy .rlc .ix .l d s)
def execRlc_mIXd_A (d : Byte) (s : State) : Result := .next (rotIdxCopy .rlc .ix .a d s)
def execRrc_mIXd_B (d : Byte) (s : State) : Result := .next (rotIdxCopy .rrc .ix .b d s)
def execRrc_mIXd_C (d : Byte) (s : State) : Result := .next (rotIdxCopy .rrc .ix .c d s)
def execRrc_mIXd_D (d : Byte) (s : State) : Result := .next (rotIdxCopy .rrc .ix .d d s)
def execRrc_mIXd_E (d : Byte) (s : State) : Result := .next (rotIdxCopy .rrc .ix .e d s)
def execRrc_mIXd_H (d : Byte) (s : State) : Result := .next (rotIdxCopy .rrc .ix .h d s)
def execRrc_mIXd_L (d : Byte) (s : State) : Result := .next (rotIdxCopy .rrc .ix .l d s)
def execRrc_mIXd_A (d : Byte) (s : State) : Result := .next (rotIdxCopy .rrc .ix .a d s)
def execRl_mIXd_B (d : Byte) (s : State) : Result := .next (rotIdxCopy .rl .ix .b d s)
def execRl_mIXd_C (d : Byte) (s : State) : Result := .next (rotIdxCopy .rl .ix .c d s)
def execRl_mIXd_D (d : Byte) (s : State) : Result := .next (rotIdxCopy .rl .ix .d d s)
def execRl_mIXd_E (d : Byte) (s : State) : Result := .next (rotIdxCopy .rl .ix .e d s)
def execRl_mIXd_H (d : Byte) (s : State) : Result := .next (rotIdxCopy .rl .ix .h d s)
def execRl_mIXd_L (d : Byte) (s : State) : Result := .next (rotIdxCopy .rl .ix .l d s)
def execRl_mIXd_A (d : Byte) (s : State) : Result := .next (rotIdxCopy .rl .ix .a d s)
def execRr_mIXd_B (d : Byte) (s : State) : Result := .next (rotIdxCopy .rr .ix .b d s)
def execRr_mIXd_C (d : Byte) (s : State) : Result := .next (rotIdxCopy .rr .ix .c d s)
def execRr_mIXd_D (d : Byte) (s : State) : Result := .next (rotIdxCopy .rr .ix .d d s)
def execRr_mIXd_E (d : Byte) (s : State) : Result := .next (rotIdxCopy .rr .ix .e d s)
def execRr_mIXd_H (d : Byte) (s : State) : Result := .next (rotIdxCopy .rr .ix .h d s)
def execRr_mIXd_L (d : Byte) (s : State) : Result := .next (rotIdxCopy .rr .ix .l d s)
def execRr_mIXd_A (d : Byte) (s : State) : Result := .next (rotIdxCopy .rr .ix .a d s)
def execSla_mIXd_B (d : Byte) (s : State) : Result := .next (rotIdxCopy .sla .ix .b d s)
def execSla_mIXd_C (d : Byte) (s : State) : Result := .next (rotIdxCopy .sla .ix .c d s)
def execSla_mIXd_D (d : Byte) (s : State) : Result := .next (rotIdxCopy .sla .ix .d d s)
def execSla_mIXd_E (d : Byte) (s : State) : Result := .next (rotIdxCopy .sla .ix .e d s)
def execSla_mIXd_H (d : Byte) (s : State) : Result := .next (rotIdxCopy .sla .ix .h d s)
def execSla_mIXd_L (d : Byte) (s : State) : Result := .next (rotIdxCopy .sla .ix .l d s)
def execSla_mIXd_A (d : Byte) (s : State) : Result := .next (rotIdxCopy .sla .ix .a d s)
def execSra_mIXd_B (d : Byte) (s : State) : Result := .next (rotIdxCopy .sra .ix .b d s)
def execSra_mIXd_C (d : Byte) (s : State) : Result := .next (rotIdxCopy .sra .ix .c d s)
def execSra_mIXd_D (d : Byte) (s : State) : Result := .next (rotIdxCopy .sra .ix .d d s)
def execSra_mIXd_E (d : Byte) (s : State) : Result := .next (rotIdxCopy .sra .ix .e d s)
def execSra_mIXd_H (d : Byte) (s : State) : Result := .next (rotIdxCopy .sra .ix .h d s)
def execSra_mIXd_L (d : Byte) (s : State) : Result := .next (rotIdxCopy .sra .ix .l d s)
def execSra_mIXd_A (d : Byte) (s : State) : Result := .next (rotIdxCopy .sra .ix .a d s)
def execSll_mIXd_B (d : Byte) (s : State) : Result := .next (rotIdxCopy .sll .ix .b d s)
def execSll_mIXd_C (d : Byte) (s : State) : Result := .next (rotIdxCopy .sll .ix .c d s)
def execSll_mIXd_D (d : Byte) (s : State) : Result := .next (rotIdxCopy .sll .ix .d d s)
def execSll_mIXd_E (d : Byte) (s : State) : Result := .next (rotIdxCopy .sll .ix .e d s)
def execSll_mIXd_H (d : Byte) (s : State) : Result := .next (rotIdxCopy .sll .ix .h d s)
def execSll_mIXd_L (d : Byte) (s : State) : Result := .next (rotIdxCopy .sll .ix .l d s)
def execSll_mIXd_A (d : Byte) (s : State) : Result := .next (rotIdxCopy .sll .ix .a d s)
def execSrl_mIXd_B (d : Byte) (s : State) : Result := .next (rotIdxCopy .srl .ix .b d s)
def execSrl_mIXd_C (d : Byte) (s : State) : Result := .next (rotIdxCopy .srl .ix .c d s)
def execSrl_mIXd_D (d : Byte) (s : State) : Result := .next (rotIdxCopy .srl .ix .d d s)
def execSrl_mIXd_E (d : Byte) (s : State) : Result := .next (rotIdxCopy .srl .ix .e d s)
def execSrl_mIXd_H (d : Byte) (s : State) : Result := .next (rotIdxCopy .srl .ix .h d s)
def execSrl_mIXd_L (d : Byte) (s : State) : Result := .next (rotIdxCopy .srl .ix .l d s)
def execSrl_mIXd_A (d : Byte) (s : State) : Result := .next (rotIdxCopy .srl .ix .a d s)
def execRlc_mIYd_B (d : Byte) (s : State) : Result := .next (rotIdxCopy .rlc .iy .b d s)
def execRlc_mIYd_C (d : Byte) (s : State) : Result := .next (rotIdxCopy .rlc .iy .c d s)
def execRlc_mIYd_D (d : Byte) (s : State) : Result := .next (rotIdxCopy .rlc .iy .d d s)
def execRlc_mIYd_E (d : Byte) (s : State) : Result := .next (rotIdxCopy .rlc .iy .e d s)
def execRlc_mIYd_H (d : Byte) (s : State) : Result := .next (rotIdxCopy .rlc .iy .h d s)
def execRlc_mIYd_L (d : Byte) (s : State) : Result := .next (rotIdxCopy .rlc .iy .l d s)
def execRlc_mIYd_A (d : Byte) (s : State) : Result := .next (rotIdxCopy .rlc .iy .a d s)
def execRrc_mIYd_B (d : Byte) (s : State) : Result := .next (rotIdxCopy .rrc .iy .b d s)
def execRrc_mIYd_C (d : Byte) (s : State) : Result := .next (rotIdxCopy .rrc .iy .c d s)
def execRrc_mIYd_D (d : Byte) (s : State) : Result := .next (rotIdxCopy .rrc .iy .d d s)
def execRrc_mIYd_E (d : Byte) (s : State) : Result := .next (rotIdxCopy .rrc .iy .e d s)
def execRrc_mIYd_H (d : Byte) (s : State) : Result := .next (rotIdxCopy .rrc .iy .h d s)
def execRrc_mIYd_L (d : Byte) (s : State) : Result := .next (rotIdxCopy .rrc .iy .l d s)
def execRrc_mIYd_A (d : Byte) (s : State) : Result := .next (rotIdxCopy .rrc .iy .a d s)
def execRl_mIYd_B (d : Byte) (s : State) : Result := .next (rotIdxCopy .rl .iy .b d s)
def execRl_mIYd_C (d : Byte) (s : State) : Result := .next (rotIdxCopy .rl .iy .c d s)
def execRl_mIYd_D (d : Byte) (s : State) : Result := .next (rotIdxCopy .rl .iy .d d s)
def execRl_mIYd_E (d : Byte) (s : State) : Result := .next (rotIdxCopy .rl .iy .e d s)
def execRl_mIYd_H (d : Byte) (s : State) : Result := .next (rotIdxCopy .rl .iy .h d s)
def execRl_mIYd_L (d : Byte) (s : State) : Result := .next (rotIdxCopy .rl .iy .l d s)
def execRl_mIYd_A (d : Byte) (s : State) : Result := .next (rotIdxCopy .rl .iy .a d s)
def execRr_mIYd_B (d : Byte) (s : State) : Result := .next (rotIdxCopy .rr .iy .b d s)
def execRr_mIYd_C (d : Byte) (s : State) : Result := .next (rotIdxCopy .rr .iy .c d s)
def execRr_mIYd_D (d : Byte) (s : State) : Result := .next (rotIdxCopy .rr .iy .d d s)
def execRr_mIYd_E (d : Byte) (s : State) : Result := .next (rotIdxCopy .rr .iy .e d s)
def execRr_mIYd_H (d : Byte) (s : State) : Result := .next (rotIdxCopy .rr .iy .h d s)
def execRr_mIYd_L (d : Byte) (s : State) : Result := .next (rotIdxCopy .rr .iy .l d s)
def execRr_mIYd_A (d : Byte) (s : State) : Result := .next (rotIdxCopy .rr .iy .a d s)
def execSla_mIYd_B (d : Byte) (s : State) : Result := .next (rotIdxCopy .sla .iy .b d s)
def execSla_mIYd_C (d : Byte) (s : State) : Result := .next (rotIdxCopy .sla .iy .c d s)
def execSla_mIYd_D (d : Byte) (s : State) : Result := .next (rotIdxCopy .sla .iy .d d s)
def execSla_mIYd_E (d : Byte) (s : State) : Result := .next (rotIdxCopy .sla .iy .e d s)
def execSla_mIYd_H (d : Byte) (s : State) : Result := .next (rotIdxCopy .sla .iy .h d s)
def execSla_mIYd_L (d : Byte) (s : State) : Result := .next (rotIdxCopy .sla .iy .l d s)
def execSla_mIYd_A (d : Byte) (s : State) : Result := .next (rotIdxCopy .sla .iy .a d s)
def execSra_mIYd_B (d : Byte) (s : State) : Result := .next (rotIdxCopy .sra .iy .b d s)
def execSra_mIYd_C (d : Byte) (s : State) : Result := .next (rotIdxCopy .sra .iy .c d s)
def execSra_mIYd_D (d : Byte) (s : State) : Result := .next (rotIdxCopy .sra .iy .d d s)
def execSra_mIYd_E (d : Byte) (s : State) : Result := .next (rotIdxCopy .sra .iy .e d s)
def execSra_mIYd_H (d : Byte) (s : State) : Result := .next (rotIdxCopy .sra .iy .h d s)
def execSra_mIYd_L (d : Byte) (s : State) : Result := .next (rotIdxCopy .sra .iy .l d s)
def execSra_mIYd_A (d : Byte) (s : State) : Result := .next (rotIdxCopy .sra .iy .a d s)
def execSll_mIYd_B (d : Byte) (s : State) : Result := .next (rotIdxCopy .sll .iy .b d s)
def execSll_mIYd_C (d : Byte) (s : State) : Result := .next (rotIdxCopy .sll .iy .c d s)
def execSll_mIYd_D (d : Byte) (s : State) : Result := .next (rotIdxCopy .sll .iy .d d s)
def execSll_mIYd_E (d : Byte) (s : State) : Result := .next (rotIdxCopy .sll .iy .e d s)
def execSll_mIYd_H (d : Byte) (s : State) : Result := .next (rotIdxCopy .sll .iy .h d s)
def execSll_mIYd_L (d : Byte) (s : State) : Result := .next (rotIdxCopy .sll .iy .l d s)
def execSll_mIYd_A (d : Byte) (s : State) : Result := .next (rotIdxCopy .sll .iy .a d s)
def execSrl_mIYd_B (d : Byte) (s : State) : Result := .next (rotIdxCopy .srl .iy .b d s)
def execSrl_mIYd_C (d : Byte) (s : State) : Result := .next (rotIdxCopy .srl .iy .c d s)
def execSrl_mIYd_D (d : Byte) (s : State) : Result := .next (rotIdxCopy .srl .iy .d d s)
def execSrl_mIYd_E (d : Byte) (s : State) : Result := .next (rotIdxCopy .srl .iy .e d s)
def execSrl_mIYd_H (d : Byte) (s : State) : Result := .next (rotIdxCopy .srl .iy .h d s)
def execSrl_mIYd_L (d : Byte) (s : State) : Result := .next (rotIdxCopy .srl .iy .l d s)
def execSrl_mIYd_A (d : Byte) (s : State) : Result := .next (rotIdxCopy .srl .iy .a d s)

-- The rotates and shifts of (XY+d) (R385 to R393).

def execRlc_mIXd (d : Byte) (s : State) : Result := .next (rotIdx .rlc .ix d s)
def execRrc_mIXd (d : Byte) (s : State) : Result := .next (rotIdx .rrc .ix d s)
def execRl_mIXd (d : Byte) (s : State) : Result := .next (rotIdx .rl .ix d s)
def execRr_mIXd (d : Byte) (s : State) : Result := .next (rotIdx .rr .ix d s)
def execSla_mIXd (d : Byte) (s : State) : Result := .next (rotIdx .sla .ix d s)
def execSra_mIXd (d : Byte) (s : State) : Result := .next (rotIdx .sra .ix d s)
def execSll_mIXd (d : Byte) (s : State) : Result := .next (rotIdx .sll .ix d s)
def execSrl_mIXd (d : Byte) (s : State) : Result := .next (rotIdx .srl .ix d s)
def execRlc_mIYd (d : Byte) (s : State) : Result := .next (rotIdx .rlc .iy d s)
def execRrc_mIYd (d : Byte) (s : State) : Result := .next (rotIdx .rrc .iy d s)
def execRl_mIYd (d : Byte) (s : State) : Result := .next (rotIdx .rl .iy d s)
def execRr_mIYd (d : Byte) (s : State) : Result := .next (rotIdx .rr .iy d s)
def execSla_mIYd (d : Byte) (s : State) : Result := .next (rotIdx .sla .iy d s)
def execSra_mIYd (d : Byte) (s : State) : Result := .next (rotIdx .sra .iy d s)
def execSll_mIYd (d : Byte) (s : State) : Result := .next (rotIdx .sll .iy d s)
def execSrl_mIYd (d : Byte) (s : State) : Result := .next (rotIdx .srl .iy d s)

end Sys2Proof.Machine
end

