-- ==== Sys2Proof/Machine/Dispatch.lean ====
section
/-! DEFINITION. Which meaning runs for which instruction: one arm per constructor, each a direct call. -/

namespace Sys2Proof.Machine

def exec (i : Instr) (s : State) : Host.Outcome State Fault Refusal :=
  match i with
  | .nop => Sys2Proof.Machine.execNop s
  | .ld_BC_nn nn => Sys2Proof.Machine.execLd_BC_nn nn s
  | .ld_mBC_A => Sys2Proof.Machine.execLd_mBC_A s
  | .inc_BC => Sys2Proof.Machine.execInc_BC s
  | .inc_B => Sys2Proof.Machine.execInc_B s
  | .dec_B => Sys2Proof.Machine.execDec_B s
  | .ld_B_n n => Sys2Proof.Machine.execLd_B_n n s
  | .rlca => Sys2Proof.Machine.execRlca s
  | .ex_AF_AF => Sys2Proof.Machine.execEx_AF_AF s
  | .add_HL_BC => Sys2Proof.Machine.execAdd_HL_BC s
  | .ld_A_mBC => Sys2Proof.Machine.execLd_A_mBC s
  | .dec_BC => Sys2Proof.Machine.execDec_BC s
  | .inc_C => Sys2Proof.Machine.execInc_C s
  | .dec_C => Sys2Proof.Machine.execDec_C s
  | .ld_C_n n => Sys2Proof.Machine.execLd_C_n n s
  | .rrca => Sys2Proof.Machine.execRrca s
  | .djnz_e e => Sys2Proof.Machine.execDjnz_e e s
  | .ld_DE_nn nn => Sys2Proof.Machine.execLd_DE_nn nn s
  | .ld_mDE_A => Sys2Proof.Machine.execLd_mDE_A s
  | .inc_DE => Sys2Proof.Machine.execInc_DE s
  | .inc_D => Sys2Proof.Machine.execInc_D s
  | .dec_D => Sys2Proof.Machine.execDec_D s
  | .ld_D_n n => Sys2Proof.Machine.execLd_D_n n s
  | .rla => Sys2Proof.Machine.execRla s
  | .jr_e e => Sys2Proof.Machine.execJr_e e s
  | .add_HL_DE => Sys2Proof.Machine.execAdd_HL_DE s
  | .ld_A_mDE => Sys2Proof.Machine.execLd_A_mDE s
  | .dec_DE => Sys2Proof.Machine.execDec_DE s
  | .inc_E => Sys2Proof.Machine.execInc_E s
  | .dec_E => Sys2Proof.Machine.execDec_E s
  | .ld_E_n n => Sys2Proof.Machine.execLd_E_n n s
  | .rra => Sys2Proof.Machine.execRra s
  | .jr_NZ_e e => Sys2Proof.Machine.execJr_NZ_e e s
  | .ld_HL_nn nn => Sys2Proof.Machine.execLd_HL_nn nn s
  | .ld_mnn_HL nn => Sys2Proof.Machine.execLd_mnn_HL nn s
  | .inc_HL => Sys2Proof.Machine.execInc_HL s
  | .inc_H => Sys2Proof.Machine.execInc_H s
  | .dec_H => Sys2Proof.Machine.execDec_H s
  | .ld_H_n n => Sys2Proof.Machine.execLd_H_n n s
  | .daa => Sys2Proof.Machine.execDaa s
  | .jr_Z_e e => Sys2Proof.Machine.execJr_Z_e e s
  | .add_HL_HL => Sys2Proof.Machine.execAdd_HL_HL s
  | .ld_HL_mnn nn => Sys2Proof.Machine.execLd_HL_mnn nn s
  | .dec_HL => Sys2Proof.Machine.execDec_HL s
  | .inc_L => Sys2Proof.Machine.execInc_L s
  | .dec_L => Sys2Proof.Machine.execDec_L s
  | .ld_L_n n => Sys2Proof.Machine.execLd_L_n n s
  | .cpl => Sys2Proof.Machine.execCpl s
  | .jr_NC_e e => Sys2Proof.Machine.execJr_NC_e e s
  | .ld_SP_nn nn => Sys2Proof.Machine.execLd_SP_nn nn s
  | .ld_mnn_A nn => Sys2Proof.Machine.execLd_mnn_A nn s
  | .inc_SP => Sys2Proof.Machine.execInc_SP s
  | .inc_mHL => Sys2Proof.Machine.execInc_mHL s
  | .dec_mHL => Sys2Proof.Machine.execDec_mHL s
  | .ld_mHL_n n => Sys2Proof.Machine.execLd_mHL_n n s
  | .scf => Sys2Proof.Machine.execScf s
  | .jr_C_e e => Sys2Proof.Machine.execJr_C_e e s
  | .add_HL_SP => Sys2Proof.Machine.execAdd_HL_SP s
  | .ld_A_mnn nn => Sys2Proof.Machine.execLd_A_mnn nn s
  | .dec_SP => Sys2Proof.Machine.execDec_SP s
  | .inc_A => Sys2Proof.Machine.execInc_A s
  | .dec_A => Sys2Proof.Machine.execDec_A s
  | .ld_A_n n => Sys2Proof.Machine.execLd_A_n n s
  | .ccf => Sys2Proof.Machine.execCcf s
  | .ld_B_B => Sys2Proof.Machine.execLd_B_B s
  | .ld_B_C => Sys2Proof.Machine.execLd_B_C s
  | .ld_B_D => Sys2Proof.Machine.execLd_B_D s
  | .ld_B_E => Sys2Proof.Machine.execLd_B_E s
  | .ld_B_H => Sys2Proof.Machine.execLd_B_H s
  | .ld_B_L => Sys2Proof.Machine.execLd_B_L s
  | .ld_B_mHL => Sys2Proof.Machine.execLd_B_mHL s
  | .ld_B_A => Sys2Proof.Machine.execLd_B_A s
  | .ld_C_B => Sys2Proof.Machine.execLd_C_B s
  | .ld_C_C => Sys2Proof.Machine.execLd_C_C s
  | .ld_C_D => Sys2Proof.Machine.execLd_C_D s
  | .ld_C_E => Sys2Proof.Machine.execLd_C_E s
  | .ld_C_H => Sys2Proof.Machine.execLd_C_H s
  | .ld_C_L => Sys2Proof.Machine.execLd_C_L s
  | .ld_C_mHL => Sys2Proof.Machine.execLd_C_mHL s
  | .ld_C_A => Sys2Proof.Machine.execLd_C_A s
  | .ld_D_B => Sys2Proof.Machine.execLd_D_B s
  | .ld_D_C => Sys2Proof.Machine.execLd_D_C s
  | .ld_D_D => Sys2Proof.Machine.execLd_D_D s
  | .ld_D_E => Sys2Proof.Machine.execLd_D_E s
  | .ld_D_H => Sys2Proof.Machine.execLd_D_H s
  | .ld_D_L => Sys2Proof.Machine.execLd_D_L s
  | .ld_D_mHL => Sys2Proof.Machine.execLd_D_mHL s
  | .ld_D_A => Sys2Proof.Machine.execLd_D_A s
  | .ld_E_B => Sys2Proof.Machine.execLd_E_B s
  | .ld_E_C => Sys2Proof.Machine.execLd_E_C s
  | .ld_E_D => Sys2Proof.Machine.execLd_E_D s
  | .ld_E_E => Sys2Proof.Machine.execLd_E_E s
  | .ld_E_H => Sys2Proof.Machine.execLd_E_H s
  | .ld_E_L => Sys2Proof.Machine.execLd_E_L s
  | .ld_E_mHL => Sys2Proof.Machine.execLd_E_mHL s
  | .ld_E_A => Sys2Proof.Machine.execLd_E_A s
  | .ld_H_B => Sys2Proof.Machine.execLd_H_B s
  | .ld_H_C => Sys2Proof.Machine.execLd_H_C s
  | .ld_H_D => Sys2Proof.Machine.execLd_H_D s
  | .ld_H_E => Sys2Proof.Machine.execLd_H_E s
  | .ld_H_H => Sys2Proof.Machine.execLd_H_H s
  | .ld_H_L => Sys2Proof.Machine.execLd_H_L s
  | .ld_H_mHL => Sys2Proof.Machine.execLd_H_mHL s
  | .ld_H_A => Sys2Proof.Machine.execLd_H_A s
  | .ld_L_B => Sys2Proof.Machine.execLd_L_B s
  | .ld_L_C => Sys2Proof.Machine.execLd_L_C s
  | .ld_L_D => Sys2Proof.Machine.execLd_L_D s
  | .ld_L_E => Sys2Proof.Machine.execLd_L_E s
  | .ld_L_H => Sys2Proof.Machine.execLd_L_H s
  | .ld_L_L => Sys2Proof.Machine.execLd_L_L s
  | .ld_L_mHL => Sys2Proof.Machine.execLd_L_mHL s
  | .ld_L_A => Sys2Proof.Machine.execLd_L_A s
  | .ld_mHL_B => Sys2Proof.Machine.execLd_mHL_B s
  | .ld_mHL_C => Sys2Proof.Machine.execLd_mHL_C s
  | .ld_mHL_D => Sys2Proof.Machine.execLd_mHL_D s
  | .ld_mHL_E => Sys2Proof.Machine.execLd_mHL_E s
  | .ld_mHL_H => Sys2Proof.Machine.execLd_mHL_H s
  | .ld_mHL_L => Sys2Proof.Machine.execLd_mHL_L s
  | .halt => Sys2Proof.Machine.execHalt s
  | .ld_mHL_A => Sys2Proof.Machine.execLd_mHL_A s
  | .ld_A_B => Sys2Proof.Machine.execLd_A_B s
  | .ld_A_C => Sys2Proof.Machine.execLd_A_C s
  | .ld_A_D => Sys2Proof.Machine.execLd_A_D s
  | .ld_A_E => Sys2Proof.Machine.execLd_A_E s
  | .ld_A_H => Sys2Proof.Machine.execLd_A_H s
  | .ld_A_L => Sys2Proof.Machine.execLd_A_L s
  | .ld_A_mHL => Sys2Proof.Machine.execLd_A_mHL s
  | .ld_A_A => Sys2Proof.Machine.execLd_A_A s
  | .add_A_B => Sys2Proof.Machine.execAdd_A_B s
  | .add_A_C => Sys2Proof.Machine.execAdd_A_C s
  | .add_A_D => Sys2Proof.Machine.execAdd_A_D s
  | .add_A_E => Sys2Proof.Machine.execAdd_A_E s
  | .add_A_H => Sys2Proof.Machine.execAdd_A_H s
  | .add_A_L => Sys2Proof.Machine.execAdd_A_L s
  | .add_A_mHL => Sys2Proof.Machine.execAdd_A_mHL s
  | .add_A_A => Sys2Proof.Machine.execAdd_A_A s
  | .adc_A_B => Sys2Proof.Machine.execAdc_A_B s
  | .adc_A_C => Sys2Proof.Machine.execAdc_A_C s
  | .adc_A_D => Sys2Proof.Machine.execAdc_A_D s
  | .adc_A_E => Sys2Proof.Machine.execAdc_A_E s
  | .adc_A_H => Sys2Proof.Machine.execAdc_A_H s
  | .adc_A_L => Sys2Proof.Machine.execAdc_A_L s
  | .adc_A_mHL => Sys2Proof.Machine.execAdc_A_mHL s
  | .adc_A_A => Sys2Proof.Machine.execAdc_A_A s
  | .sub_B => Sys2Proof.Machine.execSub_B s
  | .sub_C => Sys2Proof.Machine.execSub_C s
  | .sub_D => Sys2Proof.Machine.execSub_D s
  | .sub_E => Sys2Proof.Machine.execSub_E s
  | .sub_H => Sys2Proof.Machine.execSub_H s
  | .sub_L => Sys2Proof.Machine.execSub_L s
  | .sub_mHL => Sys2Proof.Machine.execSub_mHL s
  | .sub_A => Sys2Proof.Machine.execSub_A s
  | .sbc_A_B => Sys2Proof.Machine.execSbc_A_B s
  | .sbc_A_C => Sys2Proof.Machine.execSbc_A_C s
  | .sbc_A_D => Sys2Proof.Machine.execSbc_A_D s
  | .sbc_A_E => Sys2Proof.Machine.execSbc_A_E s
  | .sbc_A_H => Sys2Proof.Machine.execSbc_A_H s
  | .sbc_A_L => Sys2Proof.Machine.execSbc_A_L s
  | .sbc_A_mHL => Sys2Proof.Machine.execSbc_A_mHL s
  | .sbc_A_A => Sys2Proof.Machine.execSbc_A_A s
  | .and_B => Sys2Proof.Machine.execAnd_B s
  | .and_C => Sys2Proof.Machine.execAnd_C s
  | .and_D => Sys2Proof.Machine.execAnd_D s
  | .and_E => Sys2Proof.Machine.execAnd_E s
  | .and_H => Sys2Proof.Machine.execAnd_H s
  | .and_L => Sys2Proof.Machine.execAnd_L s
  | .and_mHL => Sys2Proof.Machine.execAnd_mHL s
  | .and_A => Sys2Proof.Machine.execAnd_A s
  | .xor_B => Sys2Proof.Machine.execXor_B s
  | .xor_C => Sys2Proof.Machine.execXor_C s
  | .xor_D => Sys2Proof.Machine.execXor_D s
  | .xor_E => Sys2Proof.Machine.execXor_E s
  | .xor_H => Sys2Proof.Machine.execXor_H s
  | .xor_L => Sys2Proof.Machine.execXor_L s
  | .xor_mHL => Sys2Proof.Machine.execXor_mHL s
  | .xor_A => Sys2Proof.Machine.execXor_A s
  | .or_B => Sys2Proof.Machine.execOr_B s
  | .or_C => Sys2Proof.Machine.execOr_C s
  | .or_D => Sys2Proof.Machine.execOr_D s
  | .or_E => Sys2Proof.Machine.execOr_E s
  | .or_H => Sys2Proof.Machine.execOr_H s
  | .or_L => Sys2Proof.Machine.execOr_L s
  | .or_mHL => Sys2Proof.Machine.execOr_mHL s
  | .or_A => Sys2Proof.Machine.execOr_A s
  | .cp_B => Sys2Proof.Machine.execCp_B s
  | .cp_C => Sys2Proof.Machine.execCp_C s
  | .cp_D => Sys2Proof.Machine.execCp_D s
  | .cp_E => Sys2Proof.Machine.execCp_E s
  | .cp_H => Sys2Proof.Machine.execCp_H s
  | .cp_L => Sys2Proof.Machine.execCp_L s
  | .cp_mHL => Sys2Proof.Machine.execCp_mHL s
  | .cp_A => Sys2Proof.Machine.execCp_A s
  | .ret_NZ => Sys2Proof.Machine.execRet_NZ s
  | .pop_BC => Sys2Proof.Machine.execPop_BC s
  | .jp_NZ_nn nn => Sys2Proof.Machine.execJp_NZ_nn nn s
  | .jp_nn nn => Sys2Proof.Machine.execJp_nn nn s
  | .call_NZ_nn nn => Sys2Proof.Machine.execCall_NZ_nn nn s
  | .push_BC => Sys2Proof.Machine.execPush_BC s
  | .add_A_n n => Sys2Proof.Machine.execAdd_A_n n s
  | .rst_00H => Sys2Proof.Machine.execRst_00H s
  | .ret_Z => Sys2Proof.Machine.execRet_Z s
  | .ret => Sys2Proof.Machine.execRet s
  | .jp_Z_nn nn => Sys2Proof.Machine.execJp_Z_nn nn s
  | .call_Z_nn nn => Sys2Proof.Machine.execCall_Z_nn nn s
  | .call_nn nn => Sys2Proof.Machine.execCall_nn nn s
  | .adc_A_n n => Sys2Proof.Machine.execAdc_A_n n s
  | .rst_08H => Sys2Proof.Machine.execRst_08H s
  | .ret_NC => Sys2Proof.Machine.execRet_NC s
  | .pop_DE => Sys2Proof.Machine.execPop_DE s
  | .jp_NC_nn nn => Sys2Proof.Machine.execJp_NC_nn nn s
  | .out_pn_A n => Sys2Proof.Machine.execOut_pn_A n s
  | .call_NC_nn nn => Sys2Proof.Machine.execCall_NC_nn nn s
  | .push_DE => Sys2Proof.Machine.execPush_DE s
  | .sub_n n => Sys2Proof.Machine.execSub_n n s
  | .rst_10H => Sys2Proof.Machine.execRst_10H s
  | .ret_C => Sys2Proof.Machine.execRet_C s
  | .exx => Sys2Proof.Machine.execExx s
  | .jp_C_nn nn => Sys2Proof.Machine.execJp_C_nn nn s
  | .in_A_pn n => Sys2Proof.Machine.execIn_A_pn n s
  | .call_C_nn nn => Sys2Proof.Machine.execCall_C_nn nn s
  | .sbc_A_n n => Sys2Proof.Machine.execSbc_A_n n s
  | .rst_18H => Sys2Proof.Machine.execRst_18H s
  | .ret_PO => Sys2Proof.Machine.execRet_PO s
  | .pop_HL => Sys2Proof.Machine.execPop_HL s
  | .jp_PO_nn nn => Sys2Proof.Machine.execJp_PO_nn nn s
  | .ex_mSP_HL => Sys2Proof.Machine.execEx_mSP_HL s
  | .call_PO_nn nn => Sys2Proof.Machine.execCall_PO_nn nn s
  | .push_HL => Sys2Proof.Machine.execPush_HL s
  | .and_n n => Sys2Proof.Machine.execAnd_n n s
  | .rst_20H => Sys2Proof.Machine.execRst_20H s
  | .ret_PE => Sys2Proof.Machine.execRet_PE s
  | .jp_mHL => Sys2Proof.Machine.execJp_mHL s
  | .jp_PE_nn nn => Sys2Proof.Machine.execJp_PE_nn nn s
  | .ex_DE_HL => Sys2Proof.Machine.execEx_DE_HL s
  | .call_PE_nn nn => Sys2Proof.Machine.execCall_PE_nn nn s
  | .xor_n n => Sys2Proof.Machine.execXor_n n s
  | .rst_28H => Sys2Proof.Machine.execRst_28H s
  | .ret_P => Sys2Proof.Machine.execRet_P s
  | .pop_AF => Sys2Proof.Machine.execPop_AF s
  | .jp_P_nn nn => Sys2Proof.Machine.execJp_P_nn nn s
  | .di => Sys2Proof.Machine.execDi s
  | .call_P_nn nn => Sys2Proof.Machine.execCall_P_nn nn s
  | .push_AF => Sys2Proof.Machine.execPush_AF s
  | .or_n n => Sys2Proof.Machine.execOr_n n s
  | .rst_30H => Sys2Proof.Machine.execRst_30H s
  | .ret_M => Sys2Proof.Machine.execRet_M s
  | .ld_SP_HL => Sys2Proof.Machine.execLd_SP_HL s
  | .jp_M_nn nn => Sys2Proof.Machine.execJp_M_nn nn s
  | .ei => Sys2Proof.Machine.execEi s
  | .call_M_nn nn => Sys2Proof.Machine.execCall_M_nn nn s
  | .cp_n n => Sys2Proof.Machine.execCp_n n s
  | .rst_38H => Sys2Proof.Machine.execRst_38H s
  | .rlc_B => Sys2Proof.Machine.execRlc_B s
  | .rlc_C => Sys2Proof.Machine.execRlc_C s
  | .rlc_D => Sys2Proof.Machine.execRlc_D s
  | .rlc_E => Sys2Proof.Machine.execRlc_E s
  | .rlc_H => Sys2Proof.Machine.execRlc_H s
  | .rlc_L => Sys2Proof.Machine.execRlc_L s
  | .rlc_mHL => Sys2Proof.Machine.execRlc_mHL s
  | .rlc_A => Sys2Proof.Machine.execRlc_A s
  | .rrc_B => Sys2Proof.Machine.execRrc_B s
  | .rrc_C => Sys2Proof.Machine.execRrc_C s
  | .rrc_D => Sys2Proof.Machine.execRrc_D s
  | .rrc_E => Sys2Proof.Machine.execRrc_E s
  | .rrc_H => Sys2Proof.Machine.execRrc_H s
  | .rrc_L => Sys2Proof.Machine.execRrc_L s
  | .rrc_mHL => Sys2Proof.Machine.execRrc_mHL s
  | .rrc_A => Sys2Proof.Machine.execRrc_A s
  | .rl_B => Sys2Proof.Machine.execRl_B s
  | .rl_C => Sys2Proof.Machine.execRl_C s
  | .rl_D => Sys2Proof.Machine.execRl_D s
  | .rl_E => Sys2Proof.Machine.execRl_E s
  | .rl_H => Sys2Proof.Machine.execRl_H s
  | .rl_L => Sys2Proof.Machine.execRl_L s
  | .rl_mHL => Sys2Proof.Machine.execRl_mHL s
  | .rl_A => Sys2Proof.Machine.execRl_A s
  | .rr_B => Sys2Proof.Machine.execRr_B s
  | .rr_C => Sys2Proof.Machine.execRr_C s
  | .rr_D => Sys2Proof.Machine.execRr_D s
  | .rr_E => Sys2Proof.Machine.execRr_E s
  | .rr_H => Sys2Proof.Machine.execRr_H s
  | .rr_L => Sys2Proof.Machine.execRr_L s
  | .rr_mHL => Sys2Proof.Machine.execRr_mHL s
  | .rr_A => Sys2Proof.Machine.execRr_A s
  | .sla_B => Sys2Proof.Machine.execSla_B s
  | .sla_C => Sys2Proof.Machine.execSla_C s
  | .sla_D => Sys2Proof.Machine.execSla_D s
  | .sla_E => Sys2Proof.Machine.execSla_E s
  | .sla_H => Sys2Proof.Machine.execSla_H s
  | .sla_L => Sys2Proof.Machine.execSla_L s
  | .sla_mHL => Sys2Proof.Machine.execSla_mHL s
  | .sla_A => Sys2Proof.Machine.execSla_A s
  | .sra_B => Sys2Proof.Machine.execSra_B s
  | .sra_C => Sys2Proof.Machine.execSra_C s
  | .sra_D => Sys2Proof.Machine.execSra_D s
  | .sra_E => Sys2Proof.Machine.execSra_E s
  | .sra_H => Sys2Proof.Machine.execSra_H s
  | .sra_L => Sys2Proof.Machine.execSra_L s
  | .sra_mHL => Sys2Proof.Machine.execSra_mHL s
  | .sra_A => Sys2Proof.Machine.execSra_A s
  | .sll_B => Sys2Proof.Machine.execSll_B s
  | .sll_C => Sys2Proof.Machine.execSll_C s
  | .sll_D => Sys2Proof.Machine.execSll_D s
  | .sll_E => Sys2Proof.Machine.execSll_E s
  | .sll_H => Sys2Proof.Machine.execSll_H s
  | .sll_L => Sys2Proof.Machine.execSll_L s
  | .sll_mHL => Sys2Proof.Machine.execSll_mHL s
  | .sll_A => Sys2Proof.Machine.execSll_A s
  | .srl_B => Sys2Proof.Machine.execSrl_B s
  | .srl_C => Sys2Proof.Machine.execSrl_C s
  | .srl_D => Sys2Proof.Machine.execSrl_D s
  | .srl_E => Sys2Proof.Machine.execSrl_E s
  | .srl_H => Sys2Proof.Machine.execSrl_H s
  | .srl_L => Sys2Proof.Machine.execSrl_L s
  | .srl_mHL => Sys2Proof.Machine.execSrl_mHL s
  | .srl_A => Sys2Proof.Machine.execSrl_A s
  | .bit_0_B => Sys2Proof.Machine.execBit_0_B s
  | .bit_0_C => Sys2Proof.Machine.execBit_0_C s
  | .bit_0_D => Sys2Proof.Machine.execBit_0_D s
  | .bit_0_E => Sys2Proof.Machine.execBit_0_E s
  | .bit_0_H => Sys2Proof.Machine.execBit_0_H s
  | .bit_0_L => Sys2Proof.Machine.execBit_0_L s
  | .bit_0_mHL => Sys2Proof.Machine.execBit_0_mHL s
  | .bit_0_A => Sys2Proof.Machine.execBit_0_A s
  | .bit_1_B => Sys2Proof.Machine.execBit_1_B s
  | .bit_1_C => Sys2Proof.Machine.execBit_1_C s
  | .bit_1_D => Sys2Proof.Machine.execBit_1_D s
  | .bit_1_E => Sys2Proof.Machine.execBit_1_E s
  | .bit_1_H => Sys2Proof.Machine.execBit_1_H s
  | .bit_1_L => Sys2Proof.Machine.execBit_1_L s
  | .bit_1_mHL => Sys2Proof.Machine.execBit_1_mHL s
  | .bit_1_A => Sys2Proof.Machine.execBit_1_A s
  | .bit_2_B => Sys2Proof.Machine.execBit_2_B s
  | .bit_2_C => Sys2Proof.Machine.execBit_2_C s
  | .bit_2_D => Sys2Proof.Machine.execBit_2_D s
  | .bit_2_E => Sys2Proof.Machine.execBit_2_E s
  | .bit_2_H => Sys2Proof.Machine.execBit_2_H s
  | .bit_2_L => Sys2Proof.Machine.execBit_2_L s
  | .bit_2_mHL => Sys2Proof.Machine.execBit_2_mHL s
  | .bit_2_A => Sys2Proof.Machine.execBit_2_A s
  | .bit_3_B => Sys2Proof.Machine.execBit_3_B s
  | .bit_3_C => Sys2Proof.Machine.execBit_3_C s
  | .bit_3_D => Sys2Proof.Machine.execBit_3_D s
  | .bit_3_E => Sys2Proof.Machine.execBit_3_E s
  | .bit_3_H => Sys2Proof.Machine.execBit_3_H s
  | .bit_3_L => Sys2Proof.Machine.execBit_3_L s
  | .bit_3_mHL => Sys2Proof.Machine.execBit_3_mHL s
  | .bit_3_A => Sys2Proof.Machine.execBit_3_A s
  | .bit_4_B => Sys2Proof.Machine.execBit_4_B s
  | .bit_4_C => Sys2Proof.Machine.execBit_4_C s
  | .bit_4_D => Sys2Proof.Machine.execBit_4_D s
  | .bit_4_E => Sys2Proof.Machine.execBit_4_E s
  | .bit_4_H => Sys2Proof.Machine.execBit_4_H s
  | .bit_4_L => Sys2Proof.Machine.execBit_4_L s
  | .bit_4_mHL => Sys2Proof.Machine.execBit_4_mHL s
  | .bit_4_A => Sys2Proof.Machine.execBit_4_A s
  | .bit_5_B => Sys2Proof.Machine.execBit_5_B s
  | .bit_5_C => Sys2Proof.Machine.execBit_5_C s
  | .bit_5_D => Sys2Proof.Machine.execBit_5_D s
  | .bit_5_E => Sys2Proof.Machine.execBit_5_E s
  | .bit_5_H => Sys2Proof.Machine.execBit_5_H s
  | .bit_5_L => Sys2Proof.Machine.execBit_5_L s
  | .bit_5_mHL => Sys2Proof.Machine.execBit_5_mHL s
  | .bit_5_A => Sys2Proof.Machine.execBit_5_A s
  | .bit_6_B => Sys2Proof.Machine.execBit_6_B s
  | .bit_6_C => Sys2Proof.Machine.execBit_6_C s
  | .bit_6_D => Sys2Proof.Machine.execBit_6_D s
  | .bit_6_E => Sys2Proof.Machine.execBit_6_E s
  | .bit_6_H => Sys2Proof.Machine.execBit_6_H s
  | .bit_6_L => Sys2Proof.Machine.execBit_6_L s
  | .bit_6_mHL => Sys2Proof.Machine.execBit_6_mHL s
  | .bit_6_A => Sys2Proof.Machine.execBit_6_A s
  | .bit_7_B => Sys2Proof.Machine.execBit_7_B s
  | .bit_7_C => Sys2Proof.Machine.execBit_7_C s
  | .bit_7_D => Sys2Proof.Machine.execBit_7_D s
  | .bit_7_E => Sys2Proof.Machine.execBit_7_E s
  | .bit_7_H => Sys2Proof.Machine.execBit_7_H s
  | .bit_7_L => Sys2Proof.Machine.execBit_7_L s
  | .bit_7_mHL => Sys2Proof.Machine.execBit_7_mHL s
  | .bit_7_A => Sys2Proof.Machine.execBit_7_A s
  | .res_0_B => Sys2Proof.Machine.execRes_0_B s
  | .res_0_C => Sys2Proof.Machine.execRes_0_C s
  | .res_0_D => Sys2Proof.Machine.execRes_0_D s
  | .res_0_E => Sys2Proof.Machine.execRes_0_E s
  | .res_0_H => Sys2Proof.Machine.execRes_0_H s
  | .res_0_L => Sys2Proof.Machine.execRes_0_L s
  | .res_0_mHL => Sys2Proof.Machine.execRes_0_mHL s
  | .res_0_A => Sys2Proof.Machine.execRes_0_A s
  | .res_1_B => Sys2Proof.Machine.execRes_1_B s
  | .res_1_C => Sys2Proof.Machine.execRes_1_C s
  | .res_1_D => Sys2Proof.Machine.execRes_1_D s
  | .res_1_E => Sys2Proof.Machine.execRes_1_E s
  | .res_1_H => Sys2Proof.Machine.execRes_1_H s
  | .res_1_L => Sys2Proof.Machine.execRes_1_L s
  | .res_1_mHL => Sys2Proof.Machine.execRes_1_mHL s
  | .res_1_A => Sys2Proof.Machine.execRes_1_A s
  | .res_2_B => Sys2Proof.Machine.execRes_2_B s
  | .res_2_C => Sys2Proof.Machine.execRes_2_C s
  | .res_2_D => Sys2Proof.Machine.execRes_2_D s
  | .res_2_E => Sys2Proof.Machine.execRes_2_E s
  | .res_2_H => Sys2Proof.Machine.execRes_2_H s
  | .res_2_L => Sys2Proof.Machine.execRes_2_L s
  | .res_2_mHL => Sys2Proof.Machine.execRes_2_mHL s
  | .res_2_A => Sys2Proof.Machine.execRes_2_A s
  | .res_3_B => Sys2Proof.Machine.execRes_3_B s
  | .res_3_C => Sys2Proof.Machine.execRes_3_C s
  | .res_3_D => Sys2Proof.Machine.execRes_3_D s
  | .res_3_E => Sys2Proof.Machine.execRes_3_E s
  | .res_3_H => Sys2Proof.Machine.execRes_3_H s
  | .res_3_L => Sys2Proof.Machine.execRes_3_L s
  | .res_3_mHL => Sys2Proof.Machine.execRes_3_mHL s
  | .res_3_A => Sys2Proof.Machine.execRes_3_A s
  | .res_4_B => Sys2Proof.Machine.execRes_4_B s
  | .res_4_C => Sys2Proof.Machine.execRes_4_C s
  | .res_4_D => Sys2Proof.Machine.execRes_4_D s
  | .res_4_E => Sys2Proof.Machine.execRes_4_E s
  | .res_4_H => Sys2Proof.Machine.execRes_4_H s
  | .res_4_L => Sys2Proof.Machine.execRes_4_L s
  | .res_4_mHL => Sys2Proof.Machine.execRes_4_mHL s
  | .res_4_A => Sys2Proof.Machine.execRes_4_A s
  | .res_5_B => Sys2Proof.Machine.execRes_5_B s
  | .res_5_C => Sys2Proof.Machine.execRes_5_C s
  | .res_5_D => Sys2Proof.Machine.execRes_5_D s
  | .res_5_E => Sys2Proof.Machine.execRes_5_E s
  | .res_5_H => Sys2Proof.Machine.execRes_5_H s
  | .res_5_L => Sys2Proof.Machine.execRes_5_L s
  | .res_5_mHL => Sys2Proof.Machine.execRes_5_mHL s
  | .res_5_A => Sys2Proof.Machine.execRes_5_A s
  | .res_6_B => Sys2Proof.Machine.execRes_6_B s
  | .res_6_C => Sys2Proof.Machine.execRes_6_C s
  | .res_6_D => Sys2Proof.Machine.execRes_6_D s
  | .res_6_E => Sys2Proof.Machine.execRes_6_E s
  | .res_6_H => Sys2Proof.Machine.execRes_6_H s
  | .res_6_L => Sys2Proof.Machine.execRes_6_L s
  | .res_6_mHL => Sys2Proof.Machine.execRes_6_mHL s
  | .res_6_A => Sys2Proof.Machine.execRes_6_A s
  | .res_7_B => Sys2Proof.Machine.execRes_7_B s
  | .res_7_C => Sys2Proof.Machine.execRes_7_C s
  | .res_7_D => Sys2Proof.Machine.execRes_7_D s
  | .res_7_E => Sys2Proof.Machine.execRes_7_E s
  | .res_7_H => Sys2Proof.Machine.execRes_7_H s
  | .res_7_L => Sys2Proof.Machine.execRes_7_L s
  | .res_7_mHL => Sys2Proof.Machine.execRes_7_mHL s
  | .res_7_A => Sys2Proof.Machine.execRes_7_A s
  | .set_0_B => Sys2Proof.Machine.execSet_0_B s
  | .set_0_C => Sys2Proof.Machine.execSet_0_C s
  | .set_0_D => Sys2Proof.Machine.execSet_0_D s
  | .set_0_E => Sys2Proof.Machine.execSet_0_E s
  | .set_0_H => Sys2Proof.Machine.execSet_0_H s
  | .set_0_L => Sys2Proof.Machine.execSet_0_L s
  | .set_0_mHL => Sys2Proof.Machine.execSet_0_mHL s
  | .set_0_A => Sys2Proof.Machine.execSet_0_A s
  | .set_1_B => Sys2Proof.Machine.execSet_1_B s
  | .set_1_C => Sys2Proof.Machine.execSet_1_C s
  | .set_1_D => Sys2Proof.Machine.execSet_1_D s
  | .set_1_E => Sys2Proof.Machine.execSet_1_E s
  | .set_1_H => Sys2Proof.Machine.execSet_1_H s
  | .set_1_L => Sys2Proof.Machine.execSet_1_L s
  | .set_1_mHL => Sys2Proof.Machine.execSet_1_mHL s
  | .set_1_A => Sys2Proof.Machine.execSet_1_A s
  | .set_2_B => Sys2Proof.Machine.execSet_2_B s
  | .set_2_C => Sys2Proof.Machine.execSet_2_C s
  | .set_2_D => Sys2Proof.Machine.execSet_2_D s
  | .set_2_E => Sys2Proof.Machine.execSet_2_E s
  | .set_2_H => Sys2Proof.Machine.execSet_2_H s
  | .set_2_L => Sys2Proof.Machine.execSet_2_L s
  | .set_2_mHL => Sys2Proof.Machine.execSet_2_mHL s
  | .set_2_A => Sys2Proof.Machine.execSet_2_A s
  | .set_3_B => Sys2Proof.Machine.execSet_3_B s
  | .set_3_C => Sys2Proof.Machine.execSet_3_C s
  | .set_3_D => Sys2Proof.Machine.execSet_3_D s
  | .set_3_E => Sys2Proof.Machine.execSet_3_E s
  | .set_3_H => Sys2Proof.Machine.execSet_3_H s
  | .set_3_L => Sys2Proof.Machine.execSet_3_L s
  | .set_3_mHL => Sys2Proof.Machine.execSet_3_mHL s
  | .set_3_A => Sys2Proof.Machine.execSet_3_A s
  | .set_4_B => Sys2Proof.Machine.execSet_4_B s
  | .set_4_C => Sys2Proof.Machine.execSet_4_C s
  | .set_4_D => Sys2Proof.Machine.execSet_4_D s
  | .set_4_E => Sys2Proof.Machine.execSet_4_E s
  | .set_4_H => Sys2Proof.Machine.execSet_4_H s
  | .set_4_L => Sys2Proof.Machine.execSet_4_L s
  | .set_4_mHL => Sys2Proof.Machine.execSet_4_mHL s
  | .set_4_A => Sys2Proof.Machine.execSet_4_A s
  | .set_5_B => Sys2Proof.Machine.execSet_5_B s
  | .set_5_C => Sys2Proof.Machine.execSet_5_C s
  | .set_5_D => Sys2Proof.Machine.execSet_5_D s
  | .set_5_E => Sys2Proof.Machine.execSet_5_E s
  | .set_5_H => Sys2Proof.Machine.execSet_5_H s
  | .set_5_L => Sys2Proof.Machine.execSet_5_L s
  | .set_5_mHL => Sys2Proof.Machine.execSet_5_mHL s
  | .set_5_A => Sys2Proof.Machine.execSet_5_A s
  | .set_6_B => Sys2Proof.Machine.execSet_6_B s
  | .set_6_C => Sys2Proof.Machine.execSet_6_C s
  | .set_6_D => Sys2Proof.Machine.execSet_6_D s
  | .set_6_E => Sys2Proof.Machine.execSet_6_E s
  | .set_6_H => Sys2Proof.Machine.execSet_6_H s
  | .set_6_L => Sys2Proof.Machine.execSet_6_L s
  | .set_6_mHL => Sys2Proof.Machine.execSet_6_mHL s
  | .set_6_A => Sys2Proof.Machine.execSet_6_A s
  | .set_7_B => Sys2Proof.Machine.execSet_7_B s
  | .set_7_C => Sys2Proof.Machine.execSet_7_C s
  | .set_7_D => Sys2Proof.Machine.execSet_7_D s
  | .set_7_E => Sys2Proof.Machine.execSet_7_E s
  | .set_7_H => Sys2Proof.Machine.execSet_7_H s
  | .set_7_L => Sys2Proof.Machine.execSet_7_L s
  | .set_7_mHL => Sys2Proof.Machine.execSet_7_mHL s
  | .set_7_A => Sys2Proof.Machine.execSet_7_A s
  | .in_B_pC => Sys2Proof.Machine.execIn_B_pC s
  | .out_pC_B => Sys2Proof.Machine.execOut_pC_B s
  | .sbc_HL_BC => Sys2Proof.Machine.execSbc_HL_BC s
  | .ld_mnn_BC nn => Sys2Proof.Machine.execLd_mnn_BC nn s
  | .neg => Sys2Proof.Machine.execNeg s
  | .retn => Sys2Proof.Machine.execRetn s
  | .im_0 => Sys2Proof.Machine.execIm_0 s
  | .ld_I_A => Sys2Proof.Machine.execLd_I_A s
  | .in_C_pC => Sys2Proof.Machine.execIn_C_pC s
  | .out_pC_C => Sys2Proof.Machine.execOut_pC_C s
  | .adc_HL_BC => Sys2Proof.Machine.execAdc_HL_BC s
  | .ld_BC_mnn nn => Sys2Proof.Machine.execLd_BC_mnn nn s
  | .reti => Sys2Proof.Machine.execReti s
  | .ld_R_A => Sys2Proof.Machine.execLd_R_A s
  | .in_D_pC => Sys2Proof.Machine.execIn_D_pC s
  | .out_pC_D => Sys2Proof.Machine.execOut_pC_D s
  | .sbc_HL_DE => Sys2Proof.Machine.execSbc_HL_DE s
  | .ld_mnn_DE nn => Sys2Proof.Machine.execLd_mnn_DE nn s
  | .im_1 => Sys2Proof.Machine.execIm_1 s
  | .ld_A_I => Sys2Proof.Machine.execLd_A_I s
  | .in_E_pC => Sys2Proof.Machine.execIn_E_pC s
  | .out_pC_E => Sys2Proof.Machine.execOut_pC_E s
  | .adc_HL_DE => Sys2Proof.Machine.execAdc_HL_DE s
  | .ld_DE_mnn nn => Sys2Proof.Machine.execLd_DE_mnn nn s
  | .im_2 => Sys2Proof.Machine.execIm_2 s
  | .ld_A_R => Sys2Proof.Machine.execLd_A_R s
  | .in_H_pC => Sys2Proof.Machine.execIn_H_pC s
  | .out_pC_H => Sys2Proof.Machine.execOut_pC_H s
  | .sbc_HL_HL => Sys2Proof.Machine.execSbc_HL_HL s
  | .ld_mnn_HL_ed nn => Sys2Proof.Machine.execLd_mnn_HL_ed nn s
  | .rrd => Sys2Proof.Machine.execRrd s
  | .in_L_pC => Sys2Proof.Machine.execIn_L_pC s
  | .out_pC_L => Sys2Proof.Machine.execOut_pC_L s
  | .adc_HL_HL => Sys2Proof.Machine.execAdc_HL_HL s
  | .ld_HL_mnn_ed nn => Sys2Proof.Machine.execLd_HL_mnn_ed nn s
  | .rld => Sys2Proof.Machine.execRld s
  | .sbc_HL_SP => Sys2Proof.Machine.execSbc_HL_SP s
  | .ld_mnn_SP nn => Sys2Proof.Machine.execLd_mnn_SP nn s
  | .in_A_pC => Sys2Proof.Machine.execIn_A_pC s
  | .out_pC_A => Sys2Proof.Machine.execOut_pC_A s
  | .adc_HL_SP => Sys2Proof.Machine.execAdc_HL_SP s
  | .ld_SP_mnn nn => Sys2Proof.Machine.execLd_SP_mnn nn s
  | .ldi => Sys2Proof.Machine.execLdi s
  | .cpi => Sys2Proof.Machine.execCpi s
  | .ini => Sys2Proof.Machine.execIni s
  | .outi => Sys2Proof.Machine.execOuti s
  | .ldd => Sys2Proof.Machine.execLdd s
  | .cpd => Sys2Proof.Machine.execCpd s
  | .ind => Sys2Proof.Machine.execInd s
  | .outd => Sys2Proof.Machine.execOutd s
  | .ldir => Sys2Proof.Machine.execLdir s
  | .cpir => Sys2Proof.Machine.execCpir s
  | .inir => Sys2Proof.Machine.execInir s
  | .otir => Sys2Proof.Machine.execOtir s
  | .lddr => Sys2Proof.Machine.execLddr s
  | .cpdr => Sys2Proof.Machine.execCpdr s
  | .indr => Sys2Proof.Machine.execIndr s
  | .otdr => Sys2Proof.Machine.execOtdr s
  | .add_IX_BC => Sys2Proof.Machine.execAdd_IX_BC s
  | .add_IX_DE => Sys2Proof.Machine.execAdd_IX_DE s
  | .ld_IX_nn nn => Sys2Proof.Machine.execLd_IX_nn nn s
  | .ld_mnn_IX nn => Sys2Proof.Machine.execLd_mnn_IX nn s
  | .inc_IX => Sys2Proof.Machine.execInc_IX s
  | .inc_IXH => Sys2Proof.Machine.execInc_IXH s
  | .dec_IXH => Sys2Proof.Machine.execDec_IXH s
  | .ld_IXH_n n => Sys2Proof.Machine.execLd_IXH_n n s
  | .add_IX_IX => Sys2Proof.Machine.execAdd_IX_IX s
  | .ld_IX_mnn nn => Sys2Proof.Machine.execLd_IX_mnn nn s
  | .dec_IX => Sys2Proof.Machine.execDec_IX s
  | .inc_IXL => Sys2Proof.Machine.execInc_IXL s
  | .dec_IXL => Sys2Proof.Machine.execDec_IXL s
  | .ld_IXL_n n => Sys2Proof.Machine.execLd_IXL_n n s
  | .inc_mIXd d => Sys2Proof.Machine.execInc_mIXd d s
  | .dec_mIXd d => Sys2Proof.Machine.execDec_mIXd d s
  | .ld_mIXd_n d n => Sys2Proof.Machine.execLd_mIXd_n d n s
  | .add_IX_SP => Sys2Proof.Machine.execAdd_IX_SP s
  | .ld_B_IXH => Sys2Proof.Machine.execLd_B_IXH s
  | .ld_B_IXL => Sys2Proof.Machine.execLd_B_IXL s
  | .ld_B_mIXd d => Sys2Proof.Machine.execLd_B_mIXd d s
  | .ld_C_IXH => Sys2Proof.Machine.execLd_C_IXH s
  | .ld_C_IXL => Sys2Proof.Machine.execLd_C_IXL s
  | .ld_C_mIXd d => Sys2Proof.Machine.execLd_C_mIXd d s
  | .ld_D_IXH => Sys2Proof.Machine.execLd_D_IXH s
  | .ld_D_IXL => Sys2Proof.Machine.execLd_D_IXL s
  | .ld_D_mIXd d => Sys2Proof.Machine.execLd_D_mIXd d s
  | .ld_E_IXH => Sys2Proof.Machine.execLd_E_IXH s
  | .ld_E_IXL => Sys2Proof.Machine.execLd_E_IXL s
  | .ld_E_mIXd d => Sys2Proof.Machine.execLd_E_mIXd d s
  | .ld_IXH_B => Sys2Proof.Machine.execLd_IXH_B s
  | .ld_IXH_C => Sys2Proof.Machine.execLd_IXH_C s
  | .ld_IXH_D => Sys2Proof.Machine.execLd_IXH_D s
  | .ld_IXH_E => Sys2Proof.Machine.execLd_IXH_E s
  | .ld_IXH_IXH => Sys2Proof.Machine.execLd_IXH_IXH s
  | .ld_IXH_IXL => Sys2Proof.Machine.execLd_IXH_IXL s
  | .ld_H_mIXd d => Sys2Proof.Machine.execLd_H_mIXd d s
  | .ld_IXH_A => Sys2Proof.Machine.execLd_IXH_A s
  | .ld_IXL_B => Sys2Proof.Machine.execLd_IXL_B s
  | .ld_IXL_C => Sys2Proof.Machine.execLd_IXL_C s
  | .ld_IXL_D => Sys2Proof.Machine.execLd_IXL_D s
  | .ld_IXL_E => Sys2Proof.Machine.execLd_IXL_E s
  | .ld_IXL_IXH => Sys2Proof.Machine.execLd_IXL_IXH s
  | .ld_IXL_IXL => Sys2Proof.Machine.execLd_IXL_IXL s
  | .ld_L_mIXd d => Sys2Proof.Machine.execLd_L_mIXd d s
  | .ld_IXL_A => Sys2Proof.Machine.execLd_IXL_A s
  | .ld_mIXd_B d => Sys2Proof.Machine.execLd_mIXd_B d s
  | .ld_mIXd_C d => Sys2Proof.Machine.execLd_mIXd_C d s
  | .ld_mIXd_D d => Sys2Proof.Machine.execLd_mIXd_D d s
  | .ld_mIXd_E d => Sys2Proof.Machine.execLd_mIXd_E d s
  | .ld_mIXd_H d => Sys2Proof.Machine.execLd_mIXd_H d s
  | .ld_mIXd_L d => Sys2Proof.Machine.execLd_mIXd_L d s
  | .ld_mIXd_A d => Sys2Proof.Machine.execLd_mIXd_A d s
  | .ld_A_IXH => Sys2Proof.Machine.execLd_A_IXH s
  | .ld_A_IXL => Sys2Proof.Machine.execLd_A_IXL s
  | .ld_A_mIXd d => Sys2Proof.Machine.execLd_A_mIXd d s
  | .add_A_IXH => Sys2Proof.Machine.execAdd_A_IXH s
  | .add_A_IXL => Sys2Proof.Machine.execAdd_A_IXL s
  | .add_A_mIXd d => Sys2Proof.Machine.execAdd_A_mIXd d s
  | .adc_A_IXH => Sys2Proof.Machine.execAdc_A_IXH s
  | .adc_A_IXL => Sys2Proof.Machine.execAdc_A_IXL s
  | .adc_A_mIXd d => Sys2Proof.Machine.execAdc_A_mIXd d s
  | .sub_IXH => Sys2Proof.Machine.execSub_IXH s
  | .sub_IXL => Sys2Proof.Machine.execSub_IXL s
  | .sub_mIXd d => Sys2Proof.Machine.execSub_mIXd d s
  | .sbc_A_IXH => Sys2Proof.Machine.execSbc_A_IXH s
  | .sbc_A_IXL => Sys2Proof.Machine.execSbc_A_IXL s
  | .sbc_A_mIXd d => Sys2Proof.Machine.execSbc_A_mIXd d s
  | .and_IXH => Sys2Proof.Machine.execAnd_IXH s
  | .and_IXL => Sys2Proof.Machine.execAnd_IXL s
  | .and_mIXd d => Sys2Proof.Machine.execAnd_mIXd d s
  | .xor_IXH => Sys2Proof.Machine.execXor_IXH s
  | .xor_IXL => Sys2Proof.Machine.execXor_IXL s
  | .xor_mIXd d => Sys2Proof.Machine.execXor_mIXd d s
  | .or_IXH => Sys2Proof.Machine.execOr_IXH s
  | .or_IXL => Sys2Proof.Machine.execOr_IXL s
  | .or_mIXd d => Sys2Proof.Machine.execOr_mIXd d s
  | .cp_IXH => Sys2Proof.Machine.execCp_IXH s
  | .cp_IXL => Sys2Proof.Machine.execCp_IXL s
  | .cp_mIXd d => Sys2Proof.Machine.execCp_mIXd d s
  | .pop_IX => Sys2Proof.Machine.execPop_IX s
  | .ex_mSP_IX => Sys2Proof.Machine.execEx_mSP_IX s
  | .push_IX => Sys2Proof.Machine.execPush_IX s
  | .jp_mIX => Sys2Proof.Machine.execJp_mIX s
  | .ld_SP_IX => Sys2Proof.Machine.execLd_SP_IX s
  | .rlc_mIXd_B d => Sys2Proof.Machine.execRlc_mIXd_B d s
  | .rlc_mIXd_C d => Sys2Proof.Machine.execRlc_mIXd_C d s
  | .rlc_mIXd_D d => Sys2Proof.Machine.execRlc_mIXd_D d s
  | .rlc_mIXd_E d => Sys2Proof.Machine.execRlc_mIXd_E d s
  | .rlc_mIXd_H d => Sys2Proof.Machine.execRlc_mIXd_H d s
  | .rlc_mIXd_L d => Sys2Proof.Machine.execRlc_mIXd_L d s
  | .rlc_mIXd d => Sys2Proof.Machine.execRlc_mIXd d s
  | .rlc_mIXd_A d => Sys2Proof.Machine.execRlc_mIXd_A d s
  | .rrc_mIXd_B d => Sys2Proof.Machine.execRrc_mIXd_B d s
  | .rrc_mIXd_C d => Sys2Proof.Machine.execRrc_mIXd_C d s
  | .rrc_mIXd_D d => Sys2Proof.Machine.execRrc_mIXd_D d s
  | .rrc_mIXd_E d => Sys2Proof.Machine.execRrc_mIXd_E d s
  | .rrc_mIXd_H d => Sys2Proof.Machine.execRrc_mIXd_H d s
  | .rrc_mIXd_L d => Sys2Proof.Machine.execRrc_mIXd_L d s
  | .rrc_mIXd d => Sys2Proof.Machine.execRrc_mIXd d s
  | .rrc_mIXd_A d => Sys2Proof.Machine.execRrc_mIXd_A d s
  | .rl_mIXd_B d => Sys2Proof.Machine.execRl_mIXd_B d s
  | .rl_mIXd_C d => Sys2Proof.Machine.execRl_mIXd_C d s
  | .rl_mIXd_D d => Sys2Proof.Machine.execRl_mIXd_D d s
  | .rl_mIXd_E d => Sys2Proof.Machine.execRl_mIXd_E d s
  | .rl_mIXd_H d => Sys2Proof.Machine.execRl_mIXd_H d s
  | .rl_mIXd_L d => Sys2Proof.Machine.execRl_mIXd_L d s
  | .rl_mIXd d => Sys2Proof.Machine.execRl_mIXd d s
  | .rl_mIXd_A d => Sys2Proof.Machine.execRl_mIXd_A d s
  | .rr_mIXd_B d => Sys2Proof.Machine.execRr_mIXd_B d s
  | .rr_mIXd_C d => Sys2Proof.Machine.execRr_mIXd_C d s
  | .rr_mIXd_D d => Sys2Proof.Machine.execRr_mIXd_D d s
  | .rr_mIXd_E d => Sys2Proof.Machine.execRr_mIXd_E d s
  | .rr_mIXd_H d => Sys2Proof.Machine.execRr_mIXd_H d s
  | .rr_mIXd_L d => Sys2Proof.Machine.execRr_mIXd_L d s
  | .rr_mIXd d => Sys2Proof.Machine.execRr_mIXd d s
  | .rr_mIXd_A d => Sys2Proof.Machine.execRr_mIXd_A d s
  | .sla_mIXd_B d => Sys2Proof.Machine.execSla_mIXd_B d s
  | .sla_mIXd_C d => Sys2Proof.Machine.execSla_mIXd_C d s
  | .sla_mIXd_D d => Sys2Proof.Machine.execSla_mIXd_D d s
  | .sla_mIXd_E d => Sys2Proof.Machine.execSla_mIXd_E d s
  | .sla_mIXd_H d => Sys2Proof.Machine.execSla_mIXd_H d s
  | .sla_mIXd_L d => Sys2Proof.Machine.execSla_mIXd_L d s
  | .sla_mIXd d => Sys2Proof.Machine.execSla_mIXd d s
  | .sla_mIXd_A d => Sys2Proof.Machine.execSla_mIXd_A d s
  | .sra_mIXd_B d => Sys2Proof.Machine.execSra_mIXd_B d s
  | .sra_mIXd_C d => Sys2Proof.Machine.execSra_mIXd_C d s
  | .sra_mIXd_D d => Sys2Proof.Machine.execSra_mIXd_D d s
  | .sra_mIXd_E d => Sys2Proof.Machine.execSra_mIXd_E d s
  | .sra_mIXd_H d => Sys2Proof.Machine.execSra_mIXd_H d s
  | .sra_mIXd_L d => Sys2Proof.Machine.execSra_mIXd_L d s
  | .sra_mIXd d => Sys2Proof.Machine.execSra_mIXd d s
  | .sra_mIXd_A d => Sys2Proof.Machine.execSra_mIXd_A d s
  | .sll_mIXd_B d => Sys2Proof.Machine.execSll_mIXd_B d s
  | .sll_mIXd_C d => Sys2Proof.Machine.execSll_mIXd_C d s
  | .sll_mIXd_D d => Sys2Proof.Machine.execSll_mIXd_D d s
  | .sll_mIXd_E d => Sys2Proof.Machine.execSll_mIXd_E d s
  | .sll_mIXd_H d => Sys2Proof.Machine.execSll_mIXd_H d s
  | .sll_mIXd_L d => Sys2Proof.Machine.execSll_mIXd_L d s
  | .sll_mIXd d => Sys2Proof.Machine.execSll_mIXd d s
  | .sll_mIXd_A d => Sys2Proof.Machine.execSll_mIXd_A d s
  | .srl_mIXd_B d => Sys2Proof.Machine.execSrl_mIXd_B d s
  | .srl_mIXd_C d => Sys2Proof.Machine.execSrl_mIXd_C d s
  | .srl_mIXd_D d => Sys2Proof.Machine.execSrl_mIXd_D d s
  | .srl_mIXd_E d => Sys2Proof.Machine.execSrl_mIXd_E d s
  | .srl_mIXd_H d => Sys2Proof.Machine.execSrl_mIXd_H d s
  | .srl_mIXd_L d => Sys2Proof.Machine.execSrl_mIXd_L d s
  | .srl_mIXd d => Sys2Proof.Machine.execSrl_mIXd d s
  | .srl_mIXd_A d => Sys2Proof.Machine.execSrl_mIXd_A d s
  | .bit_0_mIXd_z0 d => Sys2Proof.Machine.execBit_0_mIXd_z0 d s
  | .bit_0_mIXd_z1 d => Sys2Proof.Machine.execBit_0_mIXd_z1 d s
  | .bit_0_mIXd_z2 d => Sys2Proof.Machine.execBit_0_mIXd_z2 d s
  | .bit_0_mIXd_z3 d => Sys2Proof.Machine.execBit_0_mIXd_z3 d s
  | .bit_0_mIXd_z4 d => Sys2Proof.Machine.execBit_0_mIXd_z4 d s
  | .bit_0_mIXd_z5 d => Sys2Proof.Machine.execBit_0_mIXd_z5 d s
  | .bit_0_mIXd_z6 d => Sys2Proof.Machine.execBit_0_mIXd_z6 d s
  | .bit_0_mIXd_z7 d => Sys2Proof.Machine.execBit_0_mIXd_z7 d s
  | .bit_1_mIXd_z0 d => Sys2Proof.Machine.execBit_1_mIXd_z0 d s
  | .bit_1_mIXd_z1 d => Sys2Proof.Machine.execBit_1_mIXd_z1 d s
  | .bit_1_mIXd_z2 d => Sys2Proof.Machine.execBit_1_mIXd_z2 d s
  | .bit_1_mIXd_z3 d => Sys2Proof.Machine.execBit_1_mIXd_z3 d s
  | .bit_1_mIXd_z4 d => Sys2Proof.Machine.execBit_1_mIXd_z4 d s
  | .bit_1_mIXd_z5 d => Sys2Proof.Machine.execBit_1_mIXd_z5 d s
  | .bit_1_mIXd_z6 d => Sys2Proof.Machine.execBit_1_mIXd_z6 d s
  | .bit_1_mIXd_z7 d => Sys2Proof.Machine.execBit_1_mIXd_z7 d s
  | .bit_2_mIXd_z0 d => Sys2Proof.Machine.execBit_2_mIXd_z0 d s
  | .bit_2_mIXd_z1 d => Sys2Proof.Machine.execBit_2_mIXd_z1 d s
  | .bit_2_mIXd_z2 d => Sys2Proof.Machine.execBit_2_mIXd_z2 d s
  | .bit_2_mIXd_z3 d => Sys2Proof.Machine.execBit_2_mIXd_z3 d s
  | .bit_2_mIXd_z4 d => Sys2Proof.Machine.execBit_2_mIXd_z4 d s
  | .bit_2_mIXd_z5 d => Sys2Proof.Machine.execBit_2_mIXd_z5 d s
  | .bit_2_mIXd_z6 d => Sys2Proof.Machine.execBit_2_mIXd_z6 d s
  | .bit_2_mIXd_z7 d => Sys2Proof.Machine.execBit_2_mIXd_z7 d s
  | .bit_3_mIXd_z0 d => Sys2Proof.Machine.execBit_3_mIXd_z0 d s
  | .bit_3_mIXd_z1 d => Sys2Proof.Machine.execBit_3_mIXd_z1 d s
  | .bit_3_mIXd_z2 d => Sys2Proof.Machine.execBit_3_mIXd_z2 d s
  | .bit_3_mIXd_z3 d => Sys2Proof.Machine.execBit_3_mIXd_z3 d s
  | .bit_3_mIXd_z4 d => Sys2Proof.Machine.execBit_3_mIXd_z4 d s
  | .bit_3_mIXd_z5 d => Sys2Proof.Machine.execBit_3_mIXd_z5 d s
  | .bit_3_mIXd_z6 d => Sys2Proof.Machine.execBit_3_mIXd_z6 d s
  | .bit_3_mIXd_z7 d => Sys2Proof.Machine.execBit_3_mIXd_z7 d s
  | .bit_4_mIXd_z0 d => Sys2Proof.Machine.execBit_4_mIXd_z0 d s
  | .bit_4_mIXd_z1 d => Sys2Proof.Machine.execBit_4_mIXd_z1 d s
  | .bit_4_mIXd_z2 d => Sys2Proof.Machine.execBit_4_mIXd_z2 d s
  | .bit_4_mIXd_z3 d => Sys2Proof.Machine.execBit_4_mIXd_z3 d s
  | .bit_4_mIXd_z4 d => Sys2Proof.Machine.execBit_4_mIXd_z4 d s
  | .bit_4_mIXd_z5 d => Sys2Proof.Machine.execBit_4_mIXd_z5 d s
  | .bit_4_mIXd_z6 d => Sys2Proof.Machine.execBit_4_mIXd_z6 d s
  | .bit_4_mIXd_z7 d => Sys2Proof.Machine.execBit_4_mIXd_z7 d s
  | .bit_5_mIXd_z0 d => Sys2Proof.Machine.execBit_5_mIXd_z0 d s
  | .bit_5_mIXd_z1 d => Sys2Proof.Machine.execBit_5_mIXd_z1 d s
  | .bit_5_mIXd_z2 d => Sys2Proof.Machine.execBit_5_mIXd_z2 d s
  | .bit_5_mIXd_z3 d => Sys2Proof.Machine.execBit_5_mIXd_z3 d s
  | .bit_5_mIXd_z4 d => Sys2Proof.Machine.execBit_5_mIXd_z4 d s
  | .bit_5_mIXd_z5 d => Sys2Proof.Machine.execBit_5_mIXd_z5 d s
  | .bit_5_mIXd_z6 d => Sys2Proof.Machine.execBit_5_mIXd_z6 d s
  | .bit_5_mIXd_z7 d => Sys2Proof.Machine.execBit_5_mIXd_z7 d s
  | .bit_6_mIXd_z0 d => Sys2Proof.Machine.execBit_6_mIXd_z0 d s
  | .bit_6_mIXd_z1 d => Sys2Proof.Machine.execBit_6_mIXd_z1 d s
  | .bit_6_mIXd_z2 d => Sys2Proof.Machine.execBit_6_mIXd_z2 d s
  | .bit_6_mIXd_z3 d => Sys2Proof.Machine.execBit_6_mIXd_z3 d s
  | .bit_6_mIXd_z4 d => Sys2Proof.Machine.execBit_6_mIXd_z4 d s
  | .bit_6_mIXd_z5 d => Sys2Proof.Machine.execBit_6_mIXd_z5 d s
  | .bit_6_mIXd_z6 d => Sys2Proof.Machine.execBit_6_mIXd_z6 d s
  | .bit_6_mIXd_z7 d => Sys2Proof.Machine.execBit_6_mIXd_z7 d s
  | .bit_7_mIXd_z0 d => Sys2Proof.Machine.execBit_7_mIXd_z0 d s
  | .bit_7_mIXd_z1 d => Sys2Proof.Machine.execBit_7_mIXd_z1 d s
  | .bit_7_mIXd_z2 d => Sys2Proof.Machine.execBit_7_mIXd_z2 d s
  | .bit_7_mIXd_z3 d => Sys2Proof.Machine.execBit_7_mIXd_z3 d s
  | .bit_7_mIXd_z4 d => Sys2Proof.Machine.execBit_7_mIXd_z4 d s
  | .bit_7_mIXd_z5 d => Sys2Proof.Machine.execBit_7_mIXd_z5 d s
  | .bit_7_mIXd_z6 d => Sys2Proof.Machine.execBit_7_mIXd_z6 d s
  | .bit_7_mIXd_z7 d => Sys2Proof.Machine.execBit_7_mIXd_z7 d s
  | .res_0_mIXd_B d => Sys2Proof.Machine.execRes_0_mIXd_B d s
  | .res_0_mIXd_C d => Sys2Proof.Machine.execRes_0_mIXd_C d s
  | .res_0_mIXd_D d => Sys2Proof.Machine.execRes_0_mIXd_D d s
  | .res_0_mIXd_E d => Sys2Proof.Machine.execRes_0_mIXd_E d s
  | .res_0_mIXd_H d => Sys2Proof.Machine.execRes_0_mIXd_H d s
  | .res_0_mIXd_L d => Sys2Proof.Machine.execRes_0_mIXd_L d s
  | .res_0_mIXd d => Sys2Proof.Machine.execRes_0_mIXd d s
  | .res_0_mIXd_A d => Sys2Proof.Machine.execRes_0_mIXd_A d s
  | .res_1_mIXd_B d => Sys2Proof.Machine.execRes_1_mIXd_B d s
  | .res_1_mIXd_C d => Sys2Proof.Machine.execRes_1_mIXd_C d s
  | .res_1_mIXd_D d => Sys2Proof.Machine.execRes_1_mIXd_D d s
  | .res_1_mIXd_E d => Sys2Proof.Machine.execRes_1_mIXd_E d s
  | .res_1_mIXd_H d => Sys2Proof.Machine.execRes_1_mIXd_H d s
  | .res_1_mIXd_L d => Sys2Proof.Machine.execRes_1_mIXd_L d s
  | .res_1_mIXd d => Sys2Proof.Machine.execRes_1_mIXd d s
  | .res_1_mIXd_A d => Sys2Proof.Machine.execRes_1_mIXd_A d s
  | .res_2_mIXd_B d => Sys2Proof.Machine.execRes_2_mIXd_B d s
  | .res_2_mIXd_C d => Sys2Proof.Machine.execRes_2_mIXd_C d s
  | .res_2_mIXd_D d => Sys2Proof.Machine.execRes_2_mIXd_D d s
  | .res_2_mIXd_E d => Sys2Proof.Machine.execRes_2_mIXd_E d s
  | .res_2_mIXd_H d => Sys2Proof.Machine.execRes_2_mIXd_H d s
  | .res_2_mIXd_L d => Sys2Proof.Machine.execRes_2_mIXd_L d s
  | .res_2_mIXd d => Sys2Proof.Machine.execRes_2_mIXd d s
  | .res_2_mIXd_A d => Sys2Proof.Machine.execRes_2_mIXd_A d s
  | .res_3_mIXd_B d => Sys2Proof.Machine.execRes_3_mIXd_B d s
  | .res_3_mIXd_C d => Sys2Proof.Machine.execRes_3_mIXd_C d s
  | .res_3_mIXd_D d => Sys2Proof.Machine.execRes_3_mIXd_D d s
  | .res_3_mIXd_E d => Sys2Proof.Machine.execRes_3_mIXd_E d s
  | .res_3_mIXd_H d => Sys2Proof.Machine.execRes_3_mIXd_H d s
  | .res_3_mIXd_L d => Sys2Proof.Machine.execRes_3_mIXd_L d s
  | .res_3_mIXd d => Sys2Proof.Machine.execRes_3_mIXd d s
  | .res_3_mIXd_A d => Sys2Proof.Machine.execRes_3_mIXd_A d s
  | .res_4_mIXd_B d => Sys2Proof.Machine.execRes_4_mIXd_B d s
  | .res_4_mIXd_C d => Sys2Proof.Machine.execRes_4_mIXd_C d s
  | .res_4_mIXd_D d => Sys2Proof.Machine.execRes_4_mIXd_D d s
  | .res_4_mIXd_E d => Sys2Proof.Machine.execRes_4_mIXd_E d s
  | .res_4_mIXd_H d => Sys2Proof.Machine.execRes_4_mIXd_H d s
  | .res_4_mIXd_L d => Sys2Proof.Machine.execRes_4_mIXd_L d s
  | .res_4_mIXd d => Sys2Proof.Machine.execRes_4_mIXd d s
  | .res_4_mIXd_A d => Sys2Proof.Machine.execRes_4_mIXd_A d s
  | .res_5_mIXd_B d => Sys2Proof.Machine.execRes_5_mIXd_B d s
  | .res_5_mIXd_C d => Sys2Proof.Machine.execRes_5_mIXd_C d s
  | .res_5_mIXd_D d => Sys2Proof.Machine.execRes_5_mIXd_D d s
  | .res_5_mIXd_E d => Sys2Proof.Machine.execRes_5_mIXd_E d s
  | .res_5_mIXd_H d => Sys2Proof.Machine.execRes_5_mIXd_H d s
  | .res_5_mIXd_L d => Sys2Proof.Machine.execRes_5_mIXd_L d s
  | .res_5_mIXd d => Sys2Proof.Machine.execRes_5_mIXd d s
  | .res_5_mIXd_A d => Sys2Proof.Machine.execRes_5_mIXd_A d s
  | .res_6_mIXd_B d => Sys2Proof.Machine.execRes_6_mIXd_B d s
  | .res_6_mIXd_C d => Sys2Proof.Machine.execRes_6_mIXd_C d s
  | .res_6_mIXd_D d => Sys2Proof.Machine.execRes_6_mIXd_D d s
  | .res_6_mIXd_E d => Sys2Proof.Machine.execRes_6_mIXd_E d s
  | .res_6_mIXd_H d => Sys2Proof.Machine.execRes_6_mIXd_H d s
  | .res_6_mIXd_L d => Sys2Proof.Machine.execRes_6_mIXd_L d s
  | .res_6_mIXd d => Sys2Proof.Machine.execRes_6_mIXd d s
  | .res_6_mIXd_A d => Sys2Proof.Machine.execRes_6_mIXd_A d s
  | .res_7_mIXd_B d => Sys2Proof.Machine.execRes_7_mIXd_B d s
  | .res_7_mIXd_C d => Sys2Proof.Machine.execRes_7_mIXd_C d s
  | .res_7_mIXd_D d => Sys2Proof.Machine.execRes_7_mIXd_D d s
  | .res_7_mIXd_E d => Sys2Proof.Machine.execRes_7_mIXd_E d s
  | .res_7_mIXd_H d => Sys2Proof.Machine.execRes_7_mIXd_H d s
  | .res_7_mIXd_L d => Sys2Proof.Machine.execRes_7_mIXd_L d s
  | .res_7_mIXd d => Sys2Proof.Machine.execRes_7_mIXd d s
  | .res_7_mIXd_A d => Sys2Proof.Machine.execRes_7_mIXd_A d s
  | .set_0_mIXd_B d => Sys2Proof.Machine.execSet_0_mIXd_B d s
  | .set_0_mIXd_C d => Sys2Proof.Machine.execSet_0_mIXd_C d s
  | .set_0_mIXd_D d => Sys2Proof.Machine.execSet_0_mIXd_D d s
  | .set_0_mIXd_E d => Sys2Proof.Machine.execSet_0_mIXd_E d s
  | .set_0_mIXd_H d => Sys2Proof.Machine.execSet_0_mIXd_H d s
  | .set_0_mIXd_L d => Sys2Proof.Machine.execSet_0_mIXd_L d s
  | .set_0_mIXd d => Sys2Proof.Machine.execSet_0_mIXd d s
  | .set_0_mIXd_A d => Sys2Proof.Machine.execSet_0_mIXd_A d s
  | .set_1_mIXd_B d => Sys2Proof.Machine.execSet_1_mIXd_B d s
  | .set_1_mIXd_C d => Sys2Proof.Machine.execSet_1_mIXd_C d s
  | .set_1_mIXd_D d => Sys2Proof.Machine.execSet_1_mIXd_D d s
  | .set_1_mIXd_E d => Sys2Proof.Machine.execSet_1_mIXd_E d s
  | .set_1_mIXd_H d => Sys2Proof.Machine.execSet_1_mIXd_H d s
  | .set_1_mIXd_L d => Sys2Proof.Machine.execSet_1_mIXd_L d s
  | .set_1_mIXd d => Sys2Proof.Machine.execSet_1_mIXd d s
  | .set_1_mIXd_A d => Sys2Proof.Machine.execSet_1_mIXd_A d s
  | .set_2_mIXd_B d => Sys2Proof.Machine.execSet_2_mIXd_B d s
  | .set_2_mIXd_C d => Sys2Proof.Machine.execSet_2_mIXd_C d s
  | .set_2_mIXd_D d => Sys2Proof.Machine.execSet_2_mIXd_D d s
  | .set_2_mIXd_E d => Sys2Proof.Machine.execSet_2_mIXd_E d s
  | .set_2_mIXd_H d => Sys2Proof.Machine.execSet_2_mIXd_H d s
  | .set_2_mIXd_L d => Sys2Proof.Machine.execSet_2_mIXd_L d s
  | .set_2_mIXd d => Sys2Proof.Machine.execSet_2_mIXd d s
  | .set_2_mIXd_A d => Sys2Proof.Machine.execSet_2_mIXd_A d s
  | .set_3_mIXd_B d => Sys2Proof.Machine.execSet_3_mIXd_B d s
  | .set_3_mIXd_C d => Sys2Proof.Machine.execSet_3_mIXd_C d s
  | .set_3_mIXd_D d => Sys2Proof.Machine.execSet_3_mIXd_D d s
  | .set_3_mIXd_E d => Sys2Proof.Machine.execSet_3_mIXd_E d s
  | .set_3_mIXd_H d => Sys2Proof.Machine.execSet_3_mIXd_H d s
  | .set_3_mIXd_L d => Sys2Proof.Machine.execSet_3_mIXd_L d s
  | .set_3_mIXd d => Sys2Proof.Machine.execSet_3_mIXd d s
  | .set_3_mIXd_A d => Sys2Proof.Machine.execSet_3_mIXd_A d s
  | .set_4_mIXd_B d => Sys2Proof.Machine.execSet_4_mIXd_B d s
  | .set_4_mIXd_C d => Sys2Proof.Machine.execSet_4_mIXd_C d s
  | .set_4_mIXd_D d => Sys2Proof.Machine.execSet_4_mIXd_D d s
  | .set_4_mIXd_E d => Sys2Proof.Machine.execSet_4_mIXd_E d s
  | .set_4_mIXd_H d => Sys2Proof.Machine.execSet_4_mIXd_H d s
  | .set_4_mIXd_L d => Sys2Proof.Machine.execSet_4_mIXd_L d s
  | .set_4_mIXd d => Sys2Proof.Machine.execSet_4_mIXd d s
  | .set_4_mIXd_A d => Sys2Proof.Machine.execSet_4_mIXd_A d s
  | .set_5_mIXd_B d => Sys2Proof.Machine.execSet_5_mIXd_B d s
  | .set_5_mIXd_C d => Sys2Proof.Machine.execSet_5_mIXd_C d s
  | .set_5_mIXd_D d => Sys2Proof.Machine.execSet_5_mIXd_D d s
  | .set_5_mIXd_E d => Sys2Proof.Machine.execSet_5_mIXd_E d s
  | .set_5_mIXd_H d => Sys2Proof.Machine.execSet_5_mIXd_H d s
  | .set_5_mIXd_L d => Sys2Proof.Machine.execSet_5_mIXd_L d s
  | .set_5_mIXd d => Sys2Proof.Machine.execSet_5_mIXd d s
  | .set_5_mIXd_A d => Sys2Proof.Machine.execSet_5_mIXd_A d s
  | .set_6_mIXd_B d => Sys2Proof.Machine.execSet_6_mIXd_B d s
  | .set_6_mIXd_C d => Sys2Proof.Machine.execSet_6_mIXd_C d s
  | .set_6_mIXd_D d => Sys2Proof.Machine.execSet_6_mIXd_D d s
  | .set_6_mIXd_E d => Sys2Proof.Machine.execSet_6_mIXd_E d s
  | .set_6_mIXd_H d => Sys2Proof.Machine.execSet_6_mIXd_H d s
  | .set_6_mIXd_L d => Sys2Proof.Machine.execSet_6_mIXd_L d s
  | .set_6_mIXd d => Sys2Proof.Machine.execSet_6_mIXd d s
  | .set_6_mIXd_A d => Sys2Proof.Machine.execSet_6_mIXd_A d s
  | .set_7_mIXd_B d => Sys2Proof.Machine.execSet_7_mIXd_B d s
  | .set_7_mIXd_C d => Sys2Proof.Machine.execSet_7_mIXd_C d s
  | .set_7_mIXd_D d => Sys2Proof.Machine.execSet_7_mIXd_D d s
  | .set_7_mIXd_E d => Sys2Proof.Machine.execSet_7_mIXd_E d s
  | .set_7_mIXd_H d => Sys2Proof.Machine.execSet_7_mIXd_H d s
  | .set_7_mIXd_L d => Sys2Proof.Machine.execSet_7_mIXd_L d s
  | .set_7_mIXd d => Sys2Proof.Machine.execSet_7_mIXd d s
  | .set_7_mIXd_A d => Sys2Proof.Machine.execSet_7_mIXd_A d s
  | .add_IY_BC => Sys2Proof.Machine.execAdd_IY_BC s
  | .add_IY_DE => Sys2Proof.Machine.execAdd_IY_DE s
  | .ld_IY_nn nn => Sys2Proof.Machine.execLd_IY_nn nn s
  | .ld_mnn_IY nn => Sys2Proof.Machine.execLd_mnn_IY nn s
  | .inc_IY => Sys2Proof.Machine.execInc_IY s
  | .inc_IYH => Sys2Proof.Machine.execInc_IYH s
  | .dec_IYH => Sys2Proof.Machine.execDec_IYH s
  | .ld_IYH_n n => Sys2Proof.Machine.execLd_IYH_n n s
  | .add_IY_IY => Sys2Proof.Machine.execAdd_IY_IY s
  | .ld_IY_mnn nn => Sys2Proof.Machine.execLd_IY_mnn nn s
  | .dec_IY => Sys2Proof.Machine.execDec_IY s
  | .inc_IYL => Sys2Proof.Machine.execInc_IYL s
  | .dec_IYL => Sys2Proof.Machine.execDec_IYL s
  | .ld_IYL_n n => Sys2Proof.Machine.execLd_IYL_n n s
  | .inc_mIYd d => Sys2Proof.Machine.execInc_mIYd d s
  | .dec_mIYd d => Sys2Proof.Machine.execDec_mIYd d s
  | .ld_mIYd_n d n => Sys2Proof.Machine.execLd_mIYd_n d n s
  | .add_IY_SP => Sys2Proof.Machine.execAdd_IY_SP s
  | .ld_B_IYH => Sys2Proof.Machine.execLd_B_IYH s
  | .ld_B_IYL => Sys2Proof.Machine.execLd_B_IYL s
  | .ld_B_mIYd d => Sys2Proof.Machine.execLd_B_mIYd d s
  | .ld_C_IYH => Sys2Proof.Machine.execLd_C_IYH s
  | .ld_C_IYL => Sys2Proof.Machine.execLd_C_IYL s
  | .ld_C_mIYd d => Sys2Proof.Machine.execLd_C_mIYd d s
  | .ld_D_IYH => Sys2Proof.Machine.execLd_D_IYH s
  | .ld_D_IYL => Sys2Proof.Machine.execLd_D_IYL s
  | .ld_D_mIYd d => Sys2Proof.Machine.execLd_D_mIYd d s
  | .ld_E_IYH => Sys2Proof.Machine.execLd_E_IYH s
  | .ld_E_IYL => Sys2Proof.Machine.execLd_E_IYL s
  | .ld_E_mIYd d => Sys2Proof.Machine.execLd_E_mIYd d s
  | .ld_IYH_B => Sys2Proof.Machine.execLd_IYH_B s
  | .ld_IYH_C => Sys2Proof.Machine.execLd_IYH_C s
  | .ld_IYH_D => Sys2Proof.Machine.execLd_IYH_D s
  | .ld_IYH_E => Sys2Proof.Machine.execLd_IYH_E s
  | .ld_IYH_IYH => Sys2Proof.Machine.execLd_IYH_IYH s
  | .ld_IYH_IYL => Sys2Proof.Machine.execLd_IYH_IYL s
  | .ld_H_mIYd d => Sys2Proof.Machine.execLd_H_mIYd d s
  | .ld_IYH_A => Sys2Proof.Machine.execLd_IYH_A s
  | .ld_IYL_B => Sys2Proof.Machine.execLd_IYL_B s
  | .ld_IYL_C => Sys2Proof.Machine.execLd_IYL_C s
  | .ld_IYL_D => Sys2Proof.Machine.execLd_IYL_D s
  | .ld_IYL_E => Sys2Proof.Machine.execLd_IYL_E s
  | .ld_IYL_IYH => Sys2Proof.Machine.execLd_IYL_IYH s
  | .ld_IYL_IYL => Sys2Proof.Machine.execLd_IYL_IYL s
  | .ld_L_mIYd d => Sys2Proof.Machine.execLd_L_mIYd d s
  | .ld_IYL_A => Sys2Proof.Machine.execLd_IYL_A s
  | .ld_mIYd_B d => Sys2Proof.Machine.execLd_mIYd_B d s
  | .ld_mIYd_C d => Sys2Proof.Machine.execLd_mIYd_C d s
  | .ld_mIYd_D d => Sys2Proof.Machine.execLd_mIYd_D d s
  | .ld_mIYd_E d => Sys2Proof.Machine.execLd_mIYd_E d s
  | .ld_mIYd_H d => Sys2Proof.Machine.execLd_mIYd_H d s
  | .ld_mIYd_L d => Sys2Proof.Machine.execLd_mIYd_L d s
  | .ld_mIYd_A d => Sys2Proof.Machine.execLd_mIYd_A d s
  | .ld_A_IYH => Sys2Proof.Machine.execLd_A_IYH s
  | .ld_A_IYL => Sys2Proof.Machine.execLd_A_IYL s
  | .ld_A_mIYd d => Sys2Proof.Machine.execLd_A_mIYd d s
  | .add_A_IYH => Sys2Proof.Machine.execAdd_A_IYH s
  | .add_A_IYL => Sys2Proof.Machine.execAdd_A_IYL s
  | .add_A_mIYd d => Sys2Proof.Machine.execAdd_A_mIYd d s
  | .adc_A_IYH => Sys2Proof.Machine.execAdc_A_IYH s
  | .adc_A_IYL => Sys2Proof.Machine.execAdc_A_IYL s
  | .adc_A_mIYd d => Sys2Proof.Machine.execAdc_A_mIYd d s
  | .sub_IYH => Sys2Proof.Machine.execSub_IYH s
  | .sub_IYL => Sys2Proof.Machine.execSub_IYL s
  | .sub_mIYd d => Sys2Proof.Machine.execSub_mIYd d s
  | .sbc_A_IYH => Sys2Proof.Machine.execSbc_A_IYH s
  | .sbc_A_IYL => Sys2Proof.Machine.execSbc_A_IYL s
  | .sbc_A_mIYd d => Sys2Proof.Machine.execSbc_A_mIYd d s
  | .and_IYH => Sys2Proof.Machine.execAnd_IYH s
  | .and_IYL => Sys2Proof.Machine.execAnd_IYL s
  | .and_mIYd d => Sys2Proof.Machine.execAnd_mIYd d s
  | .xor_IYH => Sys2Proof.Machine.execXor_IYH s
  | .xor_IYL => Sys2Proof.Machine.execXor_IYL s
  | .xor_mIYd d => Sys2Proof.Machine.execXor_mIYd d s
  | .or_IYH => Sys2Proof.Machine.execOr_IYH s
  | .or_IYL => Sys2Proof.Machine.execOr_IYL s
  | .or_mIYd d => Sys2Proof.Machine.execOr_mIYd d s
  | .cp_IYH => Sys2Proof.Machine.execCp_IYH s
  | .cp_IYL => Sys2Proof.Machine.execCp_IYL s
  | .cp_mIYd d => Sys2Proof.Machine.execCp_mIYd d s
  | .pop_IY => Sys2Proof.Machine.execPop_IY s
  | .ex_mSP_IY => Sys2Proof.Machine.execEx_mSP_IY s
  | .push_IY => Sys2Proof.Machine.execPush_IY s
  | .jp_mIY => Sys2Proof.Machine.execJp_mIY s
  | .ld_SP_IY => Sys2Proof.Machine.execLd_SP_IY s
  | .rlc_mIYd_B d => Sys2Proof.Machine.execRlc_mIYd_B d s
  | .rlc_mIYd_C d => Sys2Proof.Machine.execRlc_mIYd_C d s
  | .rlc_mIYd_D d => Sys2Proof.Machine.execRlc_mIYd_D d s
  | .rlc_mIYd_E d => Sys2Proof.Machine.execRlc_mIYd_E d s
  | .rlc_mIYd_H d => Sys2Proof.Machine.execRlc_mIYd_H d s
  | .rlc_mIYd_L d => Sys2Proof.Machine.execRlc_mIYd_L d s
  | .rlc_mIYd d => Sys2Proof.Machine.execRlc_mIYd d s
  | .rlc_mIYd_A d => Sys2Proof.Machine.execRlc_mIYd_A d s
  | .rrc_mIYd_B d => Sys2Proof.Machine.execRrc_mIYd_B d s
  | .rrc_mIYd_C d => Sys2Proof.Machine.execRrc_mIYd_C d s
  | .rrc_mIYd_D d => Sys2Proof.Machine.execRrc_mIYd_D d s
  | .rrc_mIYd_E d => Sys2Proof.Machine.execRrc_mIYd_E d s
  | .rrc_mIYd_H d => Sys2Proof.Machine.execRrc_mIYd_H d s
  | .rrc_mIYd_L d => Sys2Proof.Machine.execRrc_mIYd_L d s
  | .rrc_mIYd d => Sys2Proof.Machine.execRrc_mIYd d s
  | .rrc_mIYd_A d => Sys2Proof.Machine.execRrc_mIYd_A d s
  | .rl_mIYd_B d => Sys2Proof.Machine.execRl_mIYd_B d s
  | .rl_mIYd_C d => Sys2Proof.Machine.execRl_mIYd_C d s
  | .rl_mIYd_D d => Sys2Proof.Machine.execRl_mIYd_D d s
  | .rl_mIYd_E d => Sys2Proof.Machine.execRl_mIYd_E d s
  | .rl_mIYd_H d => Sys2Proof.Machine.execRl_mIYd_H d s
  | .rl_mIYd_L d => Sys2Proof.Machine.execRl_mIYd_L d s
  | .rl_mIYd d => Sys2Proof.Machine.execRl_mIYd d s
  | .rl_mIYd_A d => Sys2Proof.Machine.execRl_mIYd_A d s
  | .rr_mIYd_B d => Sys2Proof.Machine.execRr_mIYd_B d s
  | .rr_mIYd_C d => Sys2Proof.Machine.execRr_mIYd_C d s
  | .rr_mIYd_D d => Sys2Proof.Machine.execRr_mIYd_D d s
  | .rr_mIYd_E d => Sys2Proof.Machine.execRr_mIYd_E d s
  | .rr_mIYd_H d => Sys2Proof.Machine.execRr_mIYd_H d s
  | .rr_mIYd_L d => Sys2Proof.Machine.execRr_mIYd_L d s
  | .rr_mIYd d => Sys2Proof.Machine.execRr_mIYd d s
  | .rr_mIYd_A d => Sys2Proof.Machine.execRr_mIYd_A d s
  | .sla_mIYd_B d => Sys2Proof.Machine.execSla_mIYd_B d s
  | .sla_mIYd_C d => Sys2Proof.Machine.execSla_mIYd_C d s
  | .sla_mIYd_D d => Sys2Proof.Machine.execSla_mIYd_D d s
  | .sla_mIYd_E d => Sys2Proof.Machine.execSla_mIYd_E d s
  | .sla_mIYd_H d => Sys2Proof.Machine.execSla_mIYd_H d s
  | .sla_mIYd_L d => Sys2Proof.Machine.execSla_mIYd_L d s
  | .sla_mIYd d => Sys2Proof.Machine.execSla_mIYd d s
  | .sla_mIYd_A d => Sys2Proof.Machine.execSla_mIYd_A d s
  | .sra_mIYd_B d => Sys2Proof.Machine.execSra_mIYd_B d s
  | .sra_mIYd_C d => Sys2Proof.Machine.execSra_mIYd_C d s
  | .sra_mIYd_D d => Sys2Proof.Machine.execSra_mIYd_D d s
  | .sra_mIYd_E d => Sys2Proof.Machine.execSra_mIYd_E d s
  | .sra_mIYd_H d => Sys2Proof.Machine.execSra_mIYd_H d s
  | .sra_mIYd_L d => Sys2Proof.Machine.execSra_mIYd_L d s
  | .sra_mIYd d => Sys2Proof.Machine.execSra_mIYd d s
  | .sra_mIYd_A d => Sys2Proof.Machine.execSra_mIYd_A d s
  | .sll_mIYd_B d => Sys2Proof.Machine.execSll_mIYd_B d s
  | .sll_mIYd_C d => Sys2Proof.Machine.execSll_mIYd_C d s
  | .sll_mIYd_D d => Sys2Proof.Machine.execSll_mIYd_D d s
  | .sll_mIYd_E d => Sys2Proof.Machine.execSll_mIYd_E d s
  | .sll_mIYd_H d => Sys2Proof.Machine.execSll_mIYd_H d s
  | .sll_mIYd_L d => Sys2Proof.Machine.execSll_mIYd_L d s
  | .sll_mIYd d => Sys2Proof.Machine.execSll_mIYd d s
  | .sll_mIYd_A d => Sys2Proof.Machine.execSll_mIYd_A d s
  | .srl_mIYd_B d => Sys2Proof.Machine.execSrl_mIYd_B d s
  | .srl_mIYd_C d => Sys2Proof.Machine.execSrl_mIYd_C d s
  | .srl_mIYd_D d => Sys2Proof.Machine.execSrl_mIYd_D d s
  | .srl_mIYd_E d => Sys2Proof.Machine.execSrl_mIYd_E d s
  | .srl_mIYd_H d => Sys2Proof.Machine.execSrl_mIYd_H d s
  | .srl_mIYd_L d => Sys2Proof.Machine.execSrl_mIYd_L d s
  | .srl_mIYd d => Sys2Proof.Machine.execSrl_mIYd d s
  | .srl_mIYd_A d => Sys2Proof.Machine.execSrl_mIYd_A d s
  | .bit_0_mIYd_z0 d => Sys2Proof.Machine.execBit_0_mIYd_z0 d s
  | .bit_0_mIYd_z1 d => Sys2Proof.Machine.execBit_0_mIYd_z1 d s
  | .bit_0_mIYd_z2 d => Sys2Proof.Machine.execBit_0_mIYd_z2 d s
  | .bit_0_mIYd_z3 d => Sys2Proof.Machine.execBit_0_mIYd_z3 d s
  | .bit_0_mIYd_z4 d => Sys2Proof.Machine.execBit_0_mIYd_z4 d s
  | .bit_0_mIYd_z5 d => Sys2Proof.Machine.execBit_0_mIYd_z5 d s
  | .bit_0_mIYd_z6 d => Sys2Proof.Machine.execBit_0_mIYd_z6 d s
  | .bit_0_mIYd_z7 d => Sys2Proof.Machine.execBit_0_mIYd_z7 d s
  | .bit_1_mIYd_z0 d => Sys2Proof.Machine.execBit_1_mIYd_z0 d s
  | .bit_1_mIYd_z1 d => Sys2Proof.Machine.execBit_1_mIYd_z1 d s
  | .bit_1_mIYd_z2 d => Sys2Proof.Machine.execBit_1_mIYd_z2 d s
  | .bit_1_mIYd_z3 d => Sys2Proof.Machine.execBit_1_mIYd_z3 d s
  | .bit_1_mIYd_z4 d => Sys2Proof.Machine.execBit_1_mIYd_z4 d s
  | .bit_1_mIYd_z5 d => Sys2Proof.Machine.execBit_1_mIYd_z5 d s
  | .bit_1_mIYd_z6 d => Sys2Proof.Machine.execBit_1_mIYd_z6 d s
  | .bit_1_mIYd_z7 d => Sys2Proof.Machine.execBit_1_mIYd_z7 d s
  | .bit_2_mIYd_z0 d => Sys2Proof.Machine.execBit_2_mIYd_z0 d s
  | .bit_2_mIYd_z1 d => Sys2Proof.Machine.execBit_2_mIYd_z1 d s
  | .bit_2_mIYd_z2 d => Sys2Proof.Machine.execBit_2_mIYd_z2 d s
  | .bit_2_mIYd_z3 d => Sys2Proof.Machine.execBit_2_mIYd_z3 d s
  | .bit_2_mIYd_z4 d => Sys2Proof.Machine.execBit_2_mIYd_z4 d s
  | .bit_2_mIYd_z5 d => Sys2Proof.Machine.execBit_2_mIYd_z5 d s
  | .bit_2_mIYd_z6 d => Sys2Proof.Machine.execBit_2_mIYd_z6 d s
  | .bit_2_mIYd_z7 d => Sys2Proof.Machine.execBit_2_mIYd_z7 d s
  | .bit_3_mIYd_z0 d => Sys2Proof.Machine.execBit_3_mIYd_z0 d s
  | .bit_3_mIYd_z1 d => Sys2Proof.Machine.execBit_3_mIYd_z1 d s
  | .bit_3_mIYd_z2 d => Sys2Proof.Machine.execBit_3_mIYd_z2 d s
  | .bit_3_mIYd_z3 d => Sys2Proof.Machine.execBit_3_mIYd_z3 d s
  | .bit_3_mIYd_z4 d => Sys2Proof.Machine.execBit_3_mIYd_z4 d s
  | .bit_3_mIYd_z5 d => Sys2Proof.Machine.execBit_3_mIYd_z5 d s
  | .bit_3_mIYd_z6 d => Sys2Proof.Machine.execBit_3_mIYd_z6 d s
  | .bit_3_mIYd_z7 d => Sys2Proof.Machine.execBit_3_mIYd_z7 d s
  | .bit_4_mIYd_z0 d => Sys2Proof.Machine.execBit_4_mIYd_z0 d s
  | .bit_4_mIYd_z1 d => Sys2Proof.Machine.execBit_4_mIYd_z1 d s
  | .bit_4_mIYd_z2 d => Sys2Proof.Machine.execBit_4_mIYd_z2 d s
  | .bit_4_mIYd_z3 d => Sys2Proof.Machine.execBit_4_mIYd_z3 d s
  | .bit_4_mIYd_z4 d => Sys2Proof.Machine.execBit_4_mIYd_z4 d s
  | .bit_4_mIYd_z5 d => Sys2Proof.Machine.execBit_4_mIYd_z5 d s
  | .bit_4_mIYd_z6 d => Sys2Proof.Machine.execBit_4_mIYd_z6 d s
  | .bit_4_mIYd_z7 d => Sys2Proof.Machine.execBit_4_mIYd_z7 d s
  | .bit_5_mIYd_z0 d => Sys2Proof.Machine.execBit_5_mIYd_z0 d s
  | .bit_5_mIYd_z1 d => Sys2Proof.Machine.execBit_5_mIYd_z1 d s
  | .bit_5_mIYd_z2 d => Sys2Proof.Machine.execBit_5_mIYd_z2 d s
  | .bit_5_mIYd_z3 d => Sys2Proof.Machine.execBit_5_mIYd_z3 d s
  | .bit_5_mIYd_z4 d => Sys2Proof.Machine.execBit_5_mIYd_z4 d s
  | .bit_5_mIYd_z5 d => Sys2Proof.Machine.execBit_5_mIYd_z5 d s
  | .bit_5_mIYd_z6 d => Sys2Proof.Machine.execBit_5_mIYd_z6 d s
  | .bit_5_mIYd_z7 d => Sys2Proof.Machine.execBit_5_mIYd_z7 d s
  | .bit_6_mIYd_z0 d => Sys2Proof.Machine.execBit_6_mIYd_z0 d s
  | .bit_6_mIYd_z1 d => Sys2Proof.Machine.execBit_6_mIYd_z1 d s
  | .bit_6_mIYd_z2 d => Sys2Proof.Machine.execBit_6_mIYd_z2 d s
  | .bit_6_mIYd_z3 d => Sys2Proof.Machine.execBit_6_mIYd_z3 d s
  | .bit_6_mIYd_z4 d => Sys2Proof.Machine.execBit_6_mIYd_z4 d s
  | .bit_6_mIYd_z5 d => Sys2Proof.Machine.execBit_6_mIYd_z5 d s
  | .bit_6_mIYd_z6 d => Sys2Proof.Machine.execBit_6_mIYd_z6 d s
  | .bit_6_mIYd_z7 d => Sys2Proof.Machine.execBit_6_mIYd_z7 d s
  | .bit_7_mIYd_z0 d => Sys2Proof.Machine.execBit_7_mIYd_z0 d s
  | .bit_7_mIYd_z1 d => Sys2Proof.Machine.execBit_7_mIYd_z1 d s
  | .bit_7_mIYd_z2 d => Sys2Proof.Machine.execBit_7_mIYd_z2 d s
  | .bit_7_mIYd_z3 d => Sys2Proof.Machine.execBit_7_mIYd_z3 d s
  | .bit_7_mIYd_z4 d => Sys2Proof.Machine.execBit_7_mIYd_z4 d s
  | .bit_7_mIYd_z5 d => Sys2Proof.Machine.execBit_7_mIYd_z5 d s
  | .bit_7_mIYd_z6 d => Sys2Proof.Machine.execBit_7_mIYd_z6 d s
  | .bit_7_mIYd_z7 d => Sys2Proof.Machine.execBit_7_mIYd_z7 d s
  | .res_0_mIYd_B d => Sys2Proof.Machine.execRes_0_mIYd_B d s
  | .res_0_mIYd_C d => Sys2Proof.Machine.execRes_0_mIYd_C d s
  | .res_0_mIYd_D d => Sys2Proof.Machine.execRes_0_mIYd_D d s
  | .res_0_mIYd_E d => Sys2Proof.Machine.execRes_0_mIYd_E d s
  | .res_0_mIYd_H d => Sys2Proof.Machine.execRes_0_mIYd_H d s
  | .res_0_mIYd_L d => Sys2Proof.Machine.execRes_0_mIYd_L d s
  | .res_0_mIYd d => Sys2Proof.Machine.execRes_0_mIYd d s
  | .res_0_mIYd_A d => Sys2Proof.Machine.execRes_0_mIYd_A d s
  | .res_1_mIYd_B d => Sys2Proof.Machine.execRes_1_mIYd_B d s
  | .res_1_mIYd_C d => Sys2Proof.Machine.execRes_1_mIYd_C d s
  | .res_1_mIYd_D d => Sys2Proof.Machine.execRes_1_mIYd_D d s
  | .res_1_mIYd_E d => Sys2Proof.Machine.execRes_1_mIYd_E d s
  | .res_1_mIYd_H d => Sys2Proof.Machine.execRes_1_mIYd_H d s
  | .res_1_mIYd_L d => Sys2Proof.Machine.execRes_1_mIYd_L d s
  | .res_1_mIYd d => Sys2Proof.Machine.execRes_1_mIYd d s
  | .res_1_mIYd_A d => Sys2Proof.Machine.execRes_1_mIYd_A d s
  | .res_2_mIYd_B d => Sys2Proof.Machine.execRes_2_mIYd_B d s
  | .res_2_mIYd_C d => Sys2Proof.Machine.execRes_2_mIYd_C d s
  | .res_2_mIYd_D d => Sys2Proof.Machine.execRes_2_mIYd_D d s
  | .res_2_mIYd_E d => Sys2Proof.Machine.execRes_2_mIYd_E d s
  | .res_2_mIYd_H d => Sys2Proof.Machine.execRes_2_mIYd_H d s
  | .res_2_mIYd_L d => Sys2Proof.Machine.execRes_2_mIYd_L d s
  | .res_2_mIYd d => Sys2Proof.Machine.execRes_2_mIYd d s
  | .res_2_mIYd_A d => Sys2Proof.Machine.execRes_2_mIYd_A d s
  | .res_3_mIYd_B d => Sys2Proof.Machine.execRes_3_mIYd_B d s
  | .res_3_mIYd_C d => Sys2Proof.Machine.execRes_3_mIYd_C d s
  | .res_3_mIYd_D d => Sys2Proof.Machine.execRes_3_mIYd_D d s
  | .res_3_mIYd_E d => Sys2Proof.Machine.execRes_3_mIYd_E d s
  | .res_3_mIYd_H d => Sys2Proof.Machine.execRes_3_mIYd_H d s
  | .res_3_mIYd_L d => Sys2Proof.Machine.execRes_3_mIYd_L d s
  | .res_3_mIYd d => Sys2Proof.Machine.execRes_3_mIYd d s
  | .res_3_mIYd_A d => Sys2Proof.Machine.execRes_3_mIYd_A d s
  | .res_4_mIYd_B d => Sys2Proof.Machine.execRes_4_mIYd_B d s
  | .res_4_mIYd_C d => Sys2Proof.Machine.execRes_4_mIYd_C d s
  | .res_4_mIYd_D d => Sys2Proof.Machine.execRes_4_mIYd_D d s
  | .res_4_mIYd_E d => Sys2Proof.Machine.execRes_4_mIYd_E d s
  | .res_4_mIYd_H d => Sys2Proof.Machine.execRes_4_mIYd_H d s
  | .res_4_mIYd_L d => Sys2Proof.Machine.execRes_4_mIYd_L d s
  | .res_4_mIYd d => Sys2Proof.Machine.execRes_4_mIYd d s
  | .res_4_mIYd_A d => Sys2Proof.Machine.execRes_4_mIYd_A d s
  | .res_5_mIYd_B d => Sys2Proof.Machine.execRes_5_mIYd_B d s
  | .res_5_mIYd_C d => Sys2Proof.Machine.execRes_5_mIYd_C d s
  | .res_5_mIYd_D d => Sys2Proof.Machine.execRes_5_mIYd_D d s
  | .res_5_mIYd_E d => Sys2Proof.Machine.execRes_5_mIYd_E d s
  | .res_5_mIYd_H d => Sys2Proof.Machine.execRes_5_mIYd_H d s
  | .res_5_mIYd_L d => Sys2Proof.Machine.execRes_5_mIYd_L d s
  | .res_5_mIYd d => Sys2Proof.Machine.execRes_5_mIYd d s
  | .res_5_mIYd_A d => Sys2Proof.Machine.execRes_5_mIYd_A d s
  | .res_6_mIYd_B d => Sys2Proof.Machine.execRes_6_mIYd_B d s
  | .res_6_mIYd_C d => Sys2Proof.Machine.execRes_6_mIYd_C d s
  | .res_6_mIYd_D d => Sys2Proof.Machine.execRes_6_mIYd_D d s
  | .res_6_mIYd_E d => Sys2Proof.Machine.execRes_6_mIYd_E d s
  | .res_6_mIYd_H d => Sys2Proof.Machine.execRes_6_mIYd_H d s
  | .res_6_mIYd_L d => Sys2Proof.Machine.execRes_6_mIYd_L d s
  | .res_6_mIYd d => Sys2Proof.Machine.execRes_6_mIYd d s
  | .res_6_mIYd_A d => Sys2Proof.Machine.execRes_6_mIYd_A d s
  | .res_7_mIYd_B d => Sys2Proof.Machine.execRes_7_mIYd_B d s
  | .res_7_mIYd_C d => Sys2Proof.Machine.execRes_7_mIYd_C d s
  | .res_7_mIYd_D d => Sys2Proof.Machine.execRes_7_mIYd_D d s
  | .res_7_mIYd_E d => Sys2Proof.Machine.execRes_7_mIYd_E d s
  | .res_7_mIYd_H d => Sys2Proof.Machine.execRes_7_mIYd_H d s
  | .res_7_mIYd_L d => Sys2Proof.Machine.execRes_7_mIYd_L d s
  | .res_7_mIYd d => Sys2Proof.Machine.execRes_7_mIYd d s
  | .res_7_mIYd_A d => Sys2Proof.Machine.execRes_7_mIYd_A d s
  | .set_0_mIYd_B d => Sys2Proof.Machine.execSet_0_mIYd_B d s
  | .set_0_mIYd_C d => Sys2Proof.Machine.execSet_0_mIYd_C d s
  | .set_0_mIYd_D d => Sys2Proof.Machine.execSet_0_mIYd_D d s
  | .set_0_mIYd_E d => Sys2Proof.Machine.execSet_0_mIYd_E d s
  | .set_0_mIYd_H d => Sys2Proof.Machine.execSet_0_mIYd_H d s
  | .set_0_mIYd_L d => Sys2Proof.Machine.execSet_0_mIYd_L d s
  | .set_0_mIYd d => Sys2Proof.Machine.execSet_0_mIYd d s
  | .set_0_mIYd_A d => Sys2Proof.Machine.execSet_0_mIYd_A d s
  | .set_1_mIYd_B d => Sys2Proof.Machine.execSet_1_mIYd_B d s
  | .set_1_mIYd_C d => Sys2Proof.Machine.execSet_1_mIYd_C d s
  | .set_1_mIYd_D d => Sys2Proof.Machine.execSet_1_mIYd_D d s
  | .set_1_mIYd_E d => Sys2Proof.Machine.execSet_1_mIYd_E d s
  | .set_1_mIYd_H d => Sys2Proof.Machine.execSet_1_mIYd_H d s
  | .set_1_mIYd_L d => Sys2Proof.Machine.execSet_1_mIYd_L d s
  | .set_1_mIYd d => Sys2Proof.Machine.execSet_1_mIYd d s
  | .set_1_mIYd_A d => Sys2Proof.Machine.execSet_1_mIYd_A d s
  | .set_2_mIYd_B d => Sys2Proof.Machine.execSet_2_mIYd_B d s
  | .set_2_mIYd_C d => Sys2Proof.Machine.execSet_2_mIYd_C d s
  | .set_2_mIYd_D d => Sys2Proof.Machine.execSet_2_mIYd_D d s
  | .set_2_mIYd_E d => Sys2Proof.Machine.execSet_2_mIYd_E d s
  | .set_2_mIYd_H d => Sys2Proof.Machine.execSet_2_mIYd_H d s
  | .set_2_mIYd_L d => Sys2Proof.Machine.execSet_2_mIYd_L d s
  | .set_2_mIYd d => Sys2Proof.Machine.execSet_2_mIYd d s
  | .set_2_mIYd_A d => Sys2Proof.Machine.execSet_2_mIYd_A d s
  | .set_3_mIYd_B d => Sys2Proof.Machine.execSet_3_mIYd_B d s
  | .set_3_mIYd_C d => Sys2Proof.Machine.execSet_3_mIYd_C d s
  | .set_3_mIYd_D d => Sys2Proof.Machine.execSet_3_mIYd_D d s
  | .set_3_mIYd_E d => Sys2Proof.Machine.execSet_3_mIYd_E d s
  | .set_3_mIYd_H d => Sys2Proof.Machine.execSet_3_mIYd_H d s
  | .set_3_mIYd_L d => Sys2Proof.Machine.execSet_3_mIYd_L d s
  | .set_3_mIYd d => Sys2Proof.Machine.execSet_3_mIYd d s
  | .set_3_mIYd_A d => Sys2Proof.Machine.execSet_3_mIYd_A d s
  | .set_4_mIYd_B d => Sys2Proof.Machine.execSet_4_mIYd_B d s
  | .set_4_mIYd_C d => Sys2Proof.Machine.execSet_4_mIYd_C d s
  | .set_4_mIYd_D d => Sys2Proof.Machine.execSet_4_mIYd_D d s
  | .set_4_mIYd_E d => Sys2Proof.Machine.execSet_4_mIYd_E d s
  | .set_4_mIYd_H d => Sys2Proof.Machine.execSet_4_mIYd_H d s
  | .set_4_mIYd_L d => Sys2Proof.Machine.execSet_4_mIYd_L d s
  | .set_4_mIYd d => Sys2Proof.Machine.execSet_4_mIYd d s
  | .set_4_mIYd_A d => Sys2Proof.Machine.execSet_4_mIYd_A d s
  | .set_5_mIYd_B d => Sys2Proof.Machine.execSet_5_mIYd_B d s
  | .set_5_mIYd_C d => Sys2Proof.Machine.execSet_5_mIYd_C d s
  | .set_5_mIYd_D d => Sys2Proof.Machine.execSet_5_mIYd_D d s
  | .set_5_mIYd_E d => Sys2Proof.Machine.execSet_5_mIYd_E d s
  | .set_5_mIYd_H d => Sys2Proof.Machine.execSet_5_mIYd_H d s
  | .set_5_mIYd_L d => Sys2Proof.Machine.execSet_5_mIYd_L d s
  | .set_5_mIYd d => Sys2Proof.Machine.execSet_5_mIYd d s
  | .set_5_mIYd_A d => Sys2Proof.Machine.execSet_5_mIYd_A d s
  | .set_6_mIYd_B d => Sys2Proof.Machine.execSet_6_mIYd_B d s
  | .set_6_mIYd_C d => Sys2Proof.Machine.execSet_6_mIYd_C d s
  | .set_6_mIYd_D d => Sys2Proof.Machine.execSet_6_mIYd_D d s
  | .set_6_mIYd_E d => Sys2Proof.Machine.execSet_6_mIYd_E d s
  | .set_6_mIYd_H d => Sys2Proof.Machine.execSet_6_mIYd_H d s
  | .set_6_mIYd_L d => Sys2Proof.Machine.execSet_6_mIYd_L d s
  | .set_6_mIYd d => Sys2Proof.Machine.execSet_6_mIYd d s
  | .set_6_mIYd_A d => Sys2Proof.Machine.execSet_6_mIYd_A d s
  | .set_7_mIYd_B d => Sys2Proof.Machine.execSet_7_mIYd_B d s
  | .set_7_mIYd_C d => Sys2Proof.Machine.execSet_7_mIYd_C d s
  | .set_7_mIYd_D d => Sys2Proof.Machine.execSet_7_mIYd_D d s
  | .set_7_mIYd_E d => Sys2Proof.Machine.execSet_7_mIYd_E d s
  | .set_7_mIYd_H d => Sys2Proof.Machine.execSet_7_mIYd_H d s
  | .set_7_mIYd_L d => Sys2Proof.Machine.execSet_7_mIYd_L d s
  | .set_7_mIYd d => Sys2Proof.Machine.execSet_7_mIYd d s
  | .set_7_mIYd_A d => Sys2Proof.Machine.execSet_7_mIYd_A d s

end Sys2Proof.Machine
end

