-- ==== Sys2Proof/Machine/Fetch.lean ====
section
/-! DEFINITION. Fetching one instruction (30_encoding.md R122, R123, R126), and placing one where it is
fetched. Reads of memory have no side effect (R83), so the four bytes from pc are read at once and as
many are consumed as the instruction has. -/

namespace Sys2Proof.Machine

noncomputable section

/-- The four bytes from pc, which wraps at 0xFFFF (R36). -/
def fetchBytes (s : State) : List Byte :=
  [s.read8 s.pc, s.read8 (s.pc + 1), s.read8 (s.pc + 2), s.read8 (s.pc + 3)]

/-- How often R counts for an instruction whose first byte is o1 (R122): the opcode, and a prefix. -/
def m1Fetches (o1 : Byte) : Nat :=
  if o1 = 0xCB ∨ o1 = 0xDD ∨ o1 = 0xED ∨ o1 = 0xFD then 2 else 1

/-- R after n M1 fetches. -/
def incRTimes (n : Nat) (r : Byte) : Byte :=
  match n with
  | 0 => r
  | n + 1 => incRTimes n (incR r)

/-- The state after an instruction of `len` bytes at pc has been fetched: pc past its last byte, R
counted. -/
def afterFetch (len : Nat) (s : State) : State :=
  { s with
    pc := s.pc + BitVec.ofNat 16 len
    r := incRTimes (m1Fetches (s.read8 s.pc)) s.r }

/-- The instruction at pc with the state after its fetch, or why the bytes are none. -/
def fetch (s : State) : Except Reject (Instr × State) :=
  match decode (fetchBytes s) with
  | .ok (i, rest) => .ok (i, afterFetch (4 - rest.length) s)
  | .error e => .error e

/-- The bus with a store byte under address a: an address that leads to one already is left, else its
page is mapped as writable on store 0, or on a new store where store 0 is too small. -/
def Bus.ensure (a : Word) (b : Bus) : Bus :=
  let start := pageOf a * Config.pageSize
  match b.locate a with
  | some l =>
    if ((b.stores[l.store]?).map (fun st => decide (l.index < st.size))).getD false then b
    else { b with map := b.map.set (pageOf a) (.mapped b.stores.length start false)
                  stores := b.stores ++ [⟨65536, []⟩] }
  | none =>
    if ((b.stores[0]?).map (fun st => decide (start + Config.pageSize ≤ st.size))).getD false then
      { b with map := b.map.set (pageOf a) (.mapped 0 start false) }
    else
      { b with map := b.map.set (pageOf a) (.mapped b.stores.length start false)
               stores := b.stores ++ [⟨65536, []⟩] }

/-- The bus with byte v in the store under address a, whatever the page's read-only flag. -/
def Bus.place (a : Word) (v : Byte) (b : Bus) : Bus :=
  let b1 := b.ensure a
  match b1.locate a with
  | some l => { b1 with stores := storesWrite b1.stores l.store l.index v }
  | none => b1

/-- The bus with bytes placed from address a on. -/
def Bus.placeAll (a : Word) (bytes : List Byte) (b : Bus) : Bus :=
  match bytes with
  | [] => b
  | v :: t => Bus.placeAll (a + 1) t (b.place a v)

end

end Sys2Proof.Machine
end

