-- ==== Sys2Proof/Machine/Step.lean ====
section
/-! DEFINITION. One step of the core (30_encoding.md R140), and placing a table word for it. -/

namespace Sys2Proof.Machine

noncomputable section

/-- The step of a machine that is on, not faulted and not halted: history, fetch, the instruction or
the invalid opcode, and the boundary check (R140, R510, R520, R550). INV is already 0. -/
def stepRunning (s : State) : Result :=
  match fetch (histWrite s) with
  | .error _ => boundary s.pc (invalidOpcode (histWrite s))
  | .ok (i, s1) =>
    match exec i s1 with
    | .next s2 => boundary s.pc s2
    | .fault f => .fault f
    | .refused r => .refused r

/-- One step (R140): INV is cleared; a halted core idles (R540), any other runs one instruction; the
boundary check follows. A faulted or powered-off machine has no step (R530, R602, R660). Where the
boundary of a halted idle faults (R640), the step has no first byte for R530 to name; the pc recorded
is the unchanged pc, the address after the HALT: DESIGN CHOICE, unsafe, log entry 26. -/
def step (s : State) : Host.Outcome State Fault Refusal :=
  match s.power, s.faulted with
  | .off, _ => .refused .poweredOff
  | .on, some _ => .refused .machineFaulted
  | .on, none =>
    if s.halted then boundary s.pc (haltedIdle { s with inv := false })
    else stepRunning { s with inv := false }

/-- The state with the instruction of a table word placed at pc, where step fetches next: its pages
are mapped where nothing stood under them, and the machine is on, not faulted and not halted. Log
entry 14. -/
def State.withFetchWord (s : State) (nbits w : Nat) : State :=
  { s with
    bus := s.bus.placeAll s.pc (tableBytes nbits w)
    halted := false
    power := .on
    faulted := none }

end

end Sys2Proof.Machine
end

