-- ==== Sys2Proof/Machine/HostCalls.lean ====
section
/-! DEFINITION. What the host may do to the block between steps (70_reset_and_hazards.md R660): the
calls of R59, R85, R103, R501, R551, R600, R601 and R602, and step_one_instruction. Each is refused by
name where the spec refuses it. They are no part of `step`: log entry 17. -/

namespace Sys2Proof.Machine

/-- A host call answers or is refused. -/
abbrev HostReply (α : Type) := Except Refusal α

/-- A host call on a machine that is powered (R602). -/
def whenOn {α : Type} (s : State) (k : HostReply α) : HostReply α :=
  match s.power with
  | .off => .error .poweredOff
  | .on => k

/-- `ChainRequest(k)` (R501). -/
def chainRequest (k : Nat) (s : State) : HostReply State :=
  whenOn s (match s.bus.chainRequest k with
    | some b => .ok { s with bus := b }
    | none => .error .noSuchNode)

/-- `remap(first, count, source)` (R85). -/
def remap (first count : Nat) (source : PageSource) (s : State) : HostReply State :=
  whenOn s (match s.bus.remap first count source with
    | some b => .ok { s with bus := b }
    | none => .error .badRemap)

/-- `read_memory(address)` (R103). -/
def readMemory (a : Word) (s : State) : HostReply Byte := whenOn s (.ok (s.read8 a))

/-- `write_memory(address, byte)` (R103): dropped on a read-only or unmapped page. -/
def writeMemory (a : Word) (v : Byte) (s : State) : HostReply State := whenOn s (.ok (s.write8 a v))

/-- `pc_history(i)` (R551): the most recent first, the index taken modulo the depth. -/
def pcHistory (i : Nat) (s : State) : HostReply Word :=
  let depth := s.hist.length
  whenOn s (.ok (s.hist.getD ((s.hidx + depth - 1 - i % depth) % depth) 0x0000))

/-- The identifiers of the symbolic register accessor (R59, D31). -/
inductive RegId where
  | a
  | f
  | b
  | c
  | d
  | e
  | h
  | l
  | af
  | bc
  | de
  | hl
  | af'
  | bc'
  | de'
  | hl'
  | ix
  | iy
  | ixh
  | ixl
  | iyh
  | iyl
  | sp
  | pc
  | i
  | r
  | wz
  | im
  | iff1
  | iff2
  deriving DecidableEq, Repr

/-- The identifiers as the host spells them (R59). -/
def regNames : List (String × RegId) :=
  [("A", .a), ("F", .f), ("B", .b), ("C", .c), ("D", .d), ("E", .e), ("H", .h), ("L", .l),
    ("AF", .af), ("BC", .bc), ("DE", .de), ("HL", .hl),
    ("AF'", .af'), ("BC'", .bc'), ("DE'", .de'), ("HL'", .hl'),
    ("IX", .ix), ("IY", .iy), ("IXH", .ixh), ("IXL", .ixl), ("IYH", .iyh), ("IYL", .iyl),
    ("SP", .sp), ("PC", .pc), ("I", .i), ("R", .r), ("WZ", .wz),
    ("IM", .im), ("IFF1", .iff1), ("IFF2", .iff2)]

/-- An interrupt mode as a number (R51). -/
def IntMode.value (m : IntMode) : Word :=
  match m with
  | .im0 => 0
  | .im1 => 1
  | .im2 => 2

/-- A one-bit register as a number. -/
def bitValue (b : Bool) : Word := if b then 1 else 0

/-- The value of a register by identifier, an 8-bit or narrower one in the low bits (R59). -/
def regValue (id : RegId) (s : State) : Word :=
  match id with
  | .a => pair 0 (hi s.af)
  | .f => pair 0 (lo s.af)
  | .b => pair 0 (hi s.bc)
  | .c => pair 0 (lo s.bc)
  | .d => pair 0 (hi s.de)
  | .e => pair 0 (lo s.de)
  | .h => pair 0 (hi s.hl)
  | .l => pair 0 (lo s.hl)
  | .af => s.af
  | .bc => s.bc
  | .de => s.de
  | .hl => s.hl
  | .af' => s.af'
  | .bc' => s.bc'
  | .de' => s.de'
  | .hl' => s.hl'
  | .ix => s.ix
  | .iy => s.iy
  | .ixh => pair 0 (hi s.ix)
  | .ixl => pair 0 (lo s.ix)
  | .iyh => pair 0 (hi s.iy)
  | .iyl => pair 0 (lo s.iy)
  | .sp => s.sp
  | .pc => s.pc
  | .i => pair 0 s.i
  | .r => pair 0 s.r
  | .wz => s.wz
  | .im => s.im.value
  | .iff1 => bitValue s.iff1
  | .iff2 => bitValue s.iff2

/-- Whether a register can hold a value: log entry 19. -/
def regFits (id : RegId) (v : Word) : Bool :=
  match id with
  | .af | .bc | .de | .hl | .af' | .bc' | .de' | .hl' | .ix | .iy | .sp | .pc | .wz => true
  | .im => v.toNat ≤ 2
  | .iff1 | .iff2 => v.toNat ≤ 1
  | _ => v.toNat ≤ 255

/-- The state with a register set to a value it can hold (R59): pair aliasing applies (R31). -/
def regSet (id : RegId) (v : Word) (s : State) : State :=
  match id with
  | .a => { s with af := withHi s.af (lo v) }
  | .f => { s with af := withLo s.af (lo v) }
  | .b => { s with bc := withHi s.bc (lo v) }
  | .c => { s with bc := withLo s.bc (lo v) }
  | .d => { s with de := withHi s.de (lo v) }
  | .e => { s with de := withLo s.de (lo v) }
  | .h => { s with hl := withHi s.hl (lo v) }
  | .l => { s with hl := withLo s.hl (lo v) }
  | .af => { s with af := v }
  | .bc => { s with bc := v }
  | .de => { s with de := v }
  | .hl => { s with hl := v }
  | .af' => { s with af' := v }
  | .bc' => { s with bc' := v }
  | .de' => { s with de' := v }
  | .hl' => { s with hl' := v }
  | .ix => { s with ix := v }
  | .iy => { s with iy := v }
  | .ixh => { s with ix := withHi s.ix (lo v) }
  | .ixl => { s with ix := withLo s.ix (lo v) }
  | .iyh => { s with iy := withHi s.iy (lo v) }
  | .iyl => { s with iy := withLo s.iy (lo v) }
  | .sp => { s with sp := v }
  | .pc => { s with pc := v }
  | .i => { s with i := lo v }
  | .r => { s with r := lo v }
  | .wz => { s with wz := v }
  | .im => { s with im := if v = 0 then .im0 else if v = 1 then .im1 else .im2 }
  | .iff1 => { s with iff1 := v != 0 }
  | .iff2 => { s with iff2 := v != 0 }

/-- A read through the register accessor (R59); an identifier outside its set is refused. -/
def readRegister (name : String) (s : State) : HostReply Word :=
  whenOn s (match regNames.lookup name with
    | some id => .ok (regValue id s)
    | none => .error .unknownRegister)

/-- A write through the register accessor (R59). -/
def writeRegister (name : String) (v : Word) (s : State) : HostReply State :=
  whenOn s (match regNames.lookup name with
    | some id => if regFits id v then .ok (regSet id v s) else .error .badRegisterValue
    | none => .error .unknownRegister)

/-- `reset()` (R600), also the way out of a fault. -/
def resetCall (draw : ResetDraw) (s : State) : HostReply State := whenOn s (.ok (s.resetWith draw))

/-- The machine variants (R601): a Z80 platform, or one with another CPU. -/
inductive MachineVariant where
  | z80 (p : Platform)
  | otherCpu
  deriving DecidableEq, Repr

/-- Whether a platform's map has its pages inside its stores, its stores are canonical, and its
history depth is a power of two: log entry 22. -/
def Platform.wf (p : Platform) : Bool :=
  (State.powerOnWith p .zero).bus.wf && p.historyDepth == 2 ^ p.historyDepth.log2

/-- `power_on(machine_variant)` (R601). -/
def powerOn (v : MachineVariant) (draw : ResetDraw) : HostReply State :=
  match v with
  | .otherCpu => .error .notZ80Variant
  | .z80 p => if p.wf then .ok (State.powerOnWith p draw) else .error .badPlatform

/-- `power_off()` (R602). -/
def powerOff (s : State) : HostReply State := whenOn s (.ok { s with power := .off })

/-- What step_one_instruction returns (R552, R620): the cycles, or the fault. -/
inductive StepReply where
  | cycles (n : Nat)
  | fault (f : Fault)
  deriving DecidableEq, Repr

noncomputable section

/-- `step_one_instruction()` (R552, R660). A step that faults keeps nothing and leaves the machine
faulted (R530). -/
def stepOneInstruction (s : State) : HostReply (State × StepReply) :=
  match step s with
  | .next t => .ok (t, .cycles t.cycles)
  | .fault (.unsupportedInterruptMode pc) =>
    .ok ({ s with faulted := some pc }, .fault (.unsupportedInterruptMode pc))
  | .refused r => .error r

end

end Sys2Proof.Machine
end

