-- ==== Sys2Proof/Safety.lean ====
section
/-! DEFINITION. What claims about runs are stated in: the end of a run and the launch premises
(70_reset_and_hazards.md R650, R651), and the well-formedness of a state that every step keeps. -/

namespace Sys2Proof

open Machine

/-- The permanent halt that ends a run (R650 (a), R640). -/
def Ended (s : State) : Bool := s.halted && !s.iff1

/-- A step that is no failed run: it did not fault (R530, R650 (b)). -/
def SafeOutcome (o : Result) : Bool :=
  match o with
  | .next _ => true
  | .fault _ => false
  | .refused _ => false

/-! ## The launch premises (R651) -/

/-- What an example or program says of its launch (R651): the pages it uses, and where it says otherwise
than the rule's defaults, which the fields take where nothing is said. -/
structure LaunchTerms where
  /-- The pages the example uses. -/
  pages : List Nat
  /-- The pages whose descriptor the example says, with that descriptor. -/
  map : List (Nat × PageSource) := []
  /-- The nodes whose latches the example says, with REQ and IUS. -/
  latches : List (Nat × Bool × Bool) := []
  /-- IFF1. -/
  iff1 : Bool := false
  /-- IFF2. -/
  iff2 : Bool := false
  /-- IM. -/
  im : IntMode := .im0
  deriving DecidableEq, Repr

/-- The launch of 95_test_vectors.md §0: every page, and nothing said otherwise. -/
def LaunchTerms.default : LaunchTerms where
  pages := List.range Config.nPages

/-- REQ and IUS of node k at launch: 0 and 0 unless the example says otherwise. -/
def LaunchTerms.nodeLatches (terms : LaunchTerms) (k : Nat) : Bool × Bool :=
  (terms.latches.lookup k).getD (false, false)

/-- Page p is mapped as writable RAM: every byte of it is a byte of a store. -/
def writableRam (b : Bus) (p : Nat) : Bool :=
  match b.pageSource p with
  | .mapped store base false => b.sourceFits 1 (.mapped store base false)
  | .mapped _ _ true => false
  | .unmapped => false

/-- Page p is as the example says, or writable RAM where it says nothing. -/
def launchPage (terms : LaunchTerms) (b : Bus) (p : Nat) : Bool :=
  match terms.map.lookup p with
  | some source => b.pageSource p == source
  | none => writableRam b p

/-- Every node's latches are as the example says, and every node it names exists. -/
def launchChain (terms : LaunchTerms) (chain : List Node) : Bool :=
  chain.zipIdx.all (fun n => (n.1.req, n.1.ius) == terms.nodeLatches n.2) &&
    terms.latches.all (fun l => decide (l.1 < chain.length))

/-- `CleanLaunch(s)` (R651) for an example's terms. Nothing is said of a register, a page the example
does not use, or a node's vector. A powered-off machine is none (R602). DEDUCED form, safe: log entry
25. -/
def CleanLaunch (terms : LaunchTerms) (s : State) : Bool :=
  s.power == .on && s.faulted.isNone && !s.halted && !s.inv && !s.eiShadow && !s.bus.intPending &&
    launchChain terms s.bus.chain &&
    s.iff1 == terms.iff1 && s.iff2 == terms.iff2 && s.im == terms.im &&
    (terms.pages ++ terms.map.map Prod.fst).all (launchPage terms s.bus)

/-! ## Well-formed states -/

/-- Memory is in its canonical form: every store lists, at strictly rising indexes below its size,
only bytes that differ from what an unlisted byte reads as. -/
def Machine.Memory.wf (stores : List Store) : Bool := stores.all Store.wf

/-- The history ring is a ring (R57): its depth is a power of two and its index lies in it. -/
def historyWf (s : State) : Bool :=
  s.hist.length == 2 ^ s.hist.length.log2 && decide (s.hidx < s.hist.length)

/-- The well-formedness of a state: a total page map into canonical stores (R80, R82), and a history
ring. -/
def StateWf (s : State) : Bool := s.bus.wf && historyWf s

/-! ## Frames: what an instruction leaves unchanged -/

/-- The pieces of the state a frame speaks of, the general registers as 8-bit halves. `memory` is every
store byte, `hist` the history ring with its index, `io` the log, count and script of the ports,
`machine` the power and the recorded fault. -/
inductive Part where
  | a
  | f
  | b
  | c
  | d
  | e
  | h
  | l
  | wz
  | af'
  | bc'
  | de'
  | hl'
  | wz'
  | ixh
  | ixl
  | iyh
  | iyl
  | sp
  | pc
  | i
  | r
  | im
  | iff1
  | iff2
  | halted
  | inv
  | eiShadow
  | memory
  | map
  | chain
  | intPending
  | hist
  | params
  | cycles
  | io
  | machine
  deriving DecidableEq, Repr

/-- That a piece of the state is the same in s and t. -/
def Part.same (p : Part) (s t : State) : Prop :=
  match p with
  | .a => t.a = s.a
  | .f => t.f = s.f
  | .b => t.reg8 .b = s.reg8 .b
  | .c => t.reg8 .c = s.reg8 .c
  | .d => t.reg8 .d = s.reg8 .d
  | .e => t.reg8 .e = s.reg8 .e
  | .h => t.reg8 .h = s.reg8 .h
  | .l => t.reg8 .l = s.reg8 .l
  | .wz => t.wz = s.wz
  | .af' => t.af' = s.af'
  | .bc' => t.bc' = s.bc'
  | .de' => t.de' = s.de'
  | .hl' => t.hl' = s.hl'
  | .wz' => t.wz' = s.wz'
  | .ixh => t.half .ix .high = s.half .ix .high
  | .ixl => t.half .ix .low = s.half .ix .low
  | .iyh => t.half .iy .high = s.half .iy .high
  | .iyl => t.half .iy .low = s.half .iy .low
  | .sp => t.sp = s.sp
  | .pc => t.pc = s.pc
  | .i => t.i = s.i
  | .r => t.r = s.r
  | .im => t.im = s.im
  | .iff1 => t.iff1 = s.iff1
  | .iff2 => t.iff2 = s.iff2
  | .halted => t.halted = s.halted
  | .inv => t.inv = s.inv
  | .eiShadow => t.eiShadow = s.eiShadow
  | .memory => t.bus.stores = s.bus.stores
  | .map => t.bus.map = s.bus.map
  | .chain => t.bus.chain = s.bus.chain
  | .intPending => t.bus.intPending = s.bus.intPending
  | .hist => t.hist = s.hist ∧ t.hidx = s.hidx
  | .params => t.params = s.params
  | .cycles => t.cycles = s.cycles
  | .io => t.ioLog = s.ioLog ∧ t.ioCount = s.ioCount ∧ t.ioScript = s.ioScript
  | .machine => t.power = s.power ∧ t.faulted = s.faulted

/-- Every piece of the state is the same in s and t but those listed. -/
def SameExcept (changed : List Part) (s t : State) : Prop := ∀ p : Part, p ∉ changed → p.same s t

/-- Whether a write at address a reaches a store byte (R84). -/
def writableAt (b : Bus) (a : Word) : Bool :=
  match b.locate a with
  | some l => !l.readonly
  | none => false

/-- Whether the store byte at index k of store n is the one address a leads to (R82). -/
def leadsTo (b : Bus) (a : Word) (n k : Nat) : Bool :=
  match b.locate a with
  | some l => l.store == n && l.index == k
  | none => false

/-- Whether two addresses lead to the same store byte (the aliasing of R82). -/
def sameByte (b : Bus) (a x : Word) : Bool :=
  match b.locate x with
  | some m => leadsTo b a m.store m.index
  | none => false

/-- What address x reads after byte writes to s, the last write first in the list. -/
def readAfter (writes : List (Word × Byte)) (s : State) (x : Word) : Byte :=
  match writes with
  | [] => s.read8 x
  | (a, v) :: earlier =>
    if writableAt s.bus a && sameByte s.bus a x then v else readAfter earlier s x

/-- The memory of t is that of s after the byte writes listed, the last write first: every address reads
as those writes leave it, and every store byte, seen by a page or not, that none of them leads to is as
before. -/
def Stores (writes : List (Word × Byte)) (s t : State) : Prop :=
  (∀ x : Word, t.read8 x = readAfter writes s x) ∧
    (∀ n k : Nat, (∀ w ∈ writes, leadsTo s.bus w.1 n k = false) →
      storesRead t.bus.stores n k = storesRead s.bus.stores n k)

/-- The instruction completes from s with what `post` says of the next state; of the state `base` (s, or
s after a port access) only the pieces listed change, and memory is `base`'s after the writes listed. -/
def CompletesFrom (i : Instr) (s base : State) (changed : List Part) (writes : List (Word × Byte))
    (post : State → Prop) : Prop :=
  ∃ t : State, exec i s = .next t ∧ post t ∧ SameExcept changed base t ∧ Stores writes base t

/-- `CompletesFrom` with nothing before it. -/
def Completes (i : Instr) (s : State) (changed : List Part) (writes : List (Word × Byte))
    (post : State → Prop) : Prop :=
  CompletesFrom i s s changed writes post

/-- The piece an 8-bit register is. -/
def partOf (r : Reg8) : Part :=
  match r with
  | .b => .b
  | .c => .c
  | .d => .d
  | .e => .e
  | .h => .h
  | .l => .l
  | .a => .a

/-- The pieces a dd or ss pair is. -/
def partsSS (p : PairSS) : List Part :=
  match p with
  | .bc => [.b, .c]
  | .de => [.d, .e]
  | .hl => [.h, .l]
  | .sp => [.sp]

/-- The pieces a qq pair is. -/
def partsQQ (p : PairQQ) : List Part :=
  match p with
  | .bc => [.b, .c]
  | .de => [.d, .e]
  | .hl => [.h, .l]
  | .af => [.a, .f]

/-- The piece an index half is. -/
def partHalf (x : Idx) (k : Half) : Part :=
  match x, k with
  | .ix, .high => .ixh
  | .ix, .low => .ixl
  | .iy, .high => .iyh
  | .iy, .low => .iyl

/-- The pieces an index register is. -/
def partsIdx (x : Idx) : List Part := [partHalf x .high, partHalf x .low]

end Sys2Proof
end

