-- ==== Sys2Proof/Certificates/Slice0/Obligations.lean ====
section
/-! DEFINITION. The statements for the provers. The flag formulas of the spec are written here in its
own mask form, apart from the flag record the meanings compute with. A statement about an instruction
gives its encoding, that it completes, what it writes, its cycle count, and its frame: `Completes` of
Safety.lean lists the pieces of the state that may change and the bytes stored. -/

namespace Sys2Proof.Spec

open Machine

/-! ## Field values (30_encoding.md R121, R124) -/

/-- The opcode byte of fields x, y and z (R121). -/
def opcode (x y z : Nat) : Byte := BitVec.ofNat 8 (64 * x + 8 * y + z)

/-- The r field. -/
def regCode (r : Reg8) : Nat :=
  match r with
  | .b => 0
  | .c => 1
  | .d => 2
  | .e => 3
  | .h => 4
  | .l => 5
  | .a => 7

/-- The r field under a DD or FD byte, for a register that is no half. -/
def plainCode (r : PlainReg) : Nat := regCode (PlainReg.toReg8 r)

/-- The r field under a DD or FD byte, for an index half. -/
def halfCode (k : Half) : Nat :=
  match k with
  | .high => 4
  | .low => 5

/-- The dd or ss field. -/
def pairCode (p : PairSS) : Nat :=
  match p with
  | .bc => 0
  | .de => 1
  | .hl => 2
  | .sp => 3

/-- The qq field. -/
def stackCode (p : PairQQ) : Nat :=
  match p with
  | .bc => 0
  | .de => 1
  | .hl => 2
  | .af => 3

/-- The pp or rr field. -/
def indexPairCode (p : PairPP) : Nat :=
  match p with
  | .bc => 0
  | .de => 1
  | .self => 2
  | .sp => 3

/-- The cc field. -/
def condCode (cc : Cond) : Nat :=
  match cc with
  | .nz => 0
  | .z => 1
  | .nc => 2
  | .c => 3
  | .po => 4
  | .pe => 5
  | .p => 6
  | .m => 7

/-- The operation field of the accumulator operations. -/
def aluCode (op : AluOp) : Nat :=
  match op with
  | .add => 0
  | .adc => 1
  | .sub => 2
  | .sbc => 3
  | .and => 4
  | .xor => 5
  | .or => 6
  | .cp => 7

/-- The operation field of the rotates and shifts. -/
def rotCode (k : RotOp) : Nat :=
  match k with
  | .rlc => 0
  | .rrc => 1
  | .rl => 2
  | .rr => 3
  | .sla => 4
  | .sra => 5
  | .sll => 6
  | .srl => 7

/-- The first byte of an index form. -/
def lead (x : Idx) : Byte :=
  match x with
  | .ix => 0xDD
  | .iy => 0xFD

/-! ## Flag formulas -/

/-- `b ? m : 0`. -/
def mask (b : Bool) (m : Byte) : Byte := if b then m else 0

/-- `SZXY(v)` of R41. -/
def szxy (v : Byte) : Byte := (v &&& 0x80) ||| mask (v == 0) 0x40 ||| (v &&& 0x28)

/-- `SZXYP(v)` of R41. -/
def szxyp (v : Byte) : Byte := szxy v ||| mask (parity v) 0x04

/-- F.C. -/
def carry (s : State) : Bool := s.f.getLsbD 0

/-- `Add8` of R300. -/
def add8 (a b : Byte) (c : Bool) : Byte × Byte :=
  let t : Nat := a.toNat + b.toNat + c.toNat
  let r : Byte := BitVec.ofNat 8 t
  (r, szxy r ||| ((a ^^^ b ^^^ r) &&& 0x10) |||
    mask (((a ^^^ r) &&& (b ^^^ r) &&& 0x80) != 0) 0x04 ||| mask (decide (t > 0xFF)) 0x01)

/-- `Sub8` of R300. -/
def sub8 (a b : Byte) (c : Bool) : Byte × Byte :=
  let t : Int := (a.toNat : Int) - b.toNat - c.toNat
  let r : Byte := BitVec.ofInt 8 t
  (r, szxy r ||| ((a ^^^ b ^^^ r) &&& 0x10) |||
    mask (((a ^^^ b) &&& (a ^^^ r) &&& 0x80) != 0) 0x04 ||| 0x02 ||| mask (decide (t < 0)) 0x01)

/-- `FLogic` of R301. -/
def logic (r : Byte) (h : Bool) : Byte := szxyp r ||| mask h 0x10

/-- The accumulator operations of R310 to R317: the new A and the new F. -/
def accumulator (op : AluOp) (a v : Byte) (c : Bool) (src : CpXySource) : Byte × Byte :=
  match op with
  | .add => add8 a v false
  | .adc => add8 a v c
  | .sub => sub8 a v false
  | .sbc => sub8 a v c
  | .and => (a &&& v, logic (a &&& v) true)
  | .xor => (a ^^^ v, logic (a ^^^ v) false)
  | .or => (a ||| v, logic (a ||| v) false)
  | .cp =>
    match src with
    | .result => (a, (sub8 a v false).2)
    | .operand => (a, ((sub8 a v false).2 &&& ~~~0x28) ||| (v &&& 0x28))

/-- INC of a byte under the old F (R318). -/
def inc (v f : Byte) : Byte × Byte :=
  (v + 1, szxy (v + 1) ||| mask (v &&& 0x0F == 0x0F) 0x10 ||| mask (v == 0x7F) 0x04 ||| (f &&& 0x01))

/-- DEC of a byte under the old F (R321). -/
def dec (v f : Byte) : Byte × Byte :=
  (v - 1, szxy (v - 1) ||| mask (v &&& 0x0F == 0x00) 0x10 ||| mask (v == 0x80) 0x04 ||| 0x02 |||
    (f &&& 0x01))

/-- DAA (R330): the new A and the new F. -/
def daa (a f : Byte) : Byte × Byte :=
  let low : Bool := f.getLsbD 4 || decide ((a &&& 0x0F).toNat > 9)
  let high : Bool := f.getLsbD 0 || decide (a.toNat > 0x99)
  let corr : Byte := mask low 0x06 ||| mask high 0x60
  let res : Byte := if f.getLsbD 1 then a - corr else a + corr
  let h : Bool :=
    if f.getLsbD 1 then f.getLsbD 4 && decide ((a &&& 0x0F).toNat < 6)
    else decide ((a &&& 0x0F).toNat > 9)
  (res, szxyp res ||| mask h 0x10 ||| (f &&& 0x02) ||| mask high 0x01)

/-- `Add16` of R359 under the old F. -/
def add16 (a b : Word) (f : Byte) : Word × Byte :=
  let t : Nat := a.toNat + b.toNat
  let r : Word := BitVec.ofNat 16 t
  (r, (f &&& 0xC4) ||| (hi (a ^^^ b ^^^ r) &&& 0x10) ||| (hi r &&& 0x28) |||
    mask (decide (t > 0xFFFF)) 0x01)

/-- `Adc16` of R359. -/
def adc16 (a b : Word) (c : Bool) : Word × Byte :=
  let t : Nat := a.toNat + b.toNat + c.toNat
  let r : Word := BitVec.ofNat 16 t
  (r, (hi r &&& 0xA8) ||| mask (r == 0) 0x40 ||| (hi (a ^^^ b ^^^ r) &&& 0x10) |||
    mask (((a ^^^ r) &&& (b ^^^ r) &&& 0x8000) != 0) 0x04 ||| mask (decide (t > 0xFFFF)) 0x01)

/-- `Sbc16` of R359. -/
def sbc16 (a b : Word) (c : Bool) : Word × Byte :=
  let t : Int := (a.toNat : Int) - b.toNat - c.toNat
  let r : Word := BitVec.ofInt 16 t
  (r, (hi r &&& 0xA8) ||| mask (r == 0) 0x40 ||| (hi (a ^^^ b ^^^ r) &&& 0x10) |||
    mask (((a ^^^ b) &&& (a ^^^ r) &&& 0x8000) != 0) 0x04 ||| 0x02 ||| mask (decide (t < 0)) 0x01)

/-- `Rot(k, v)` of R384 as concatenations of fields: the result and the bit shifted out. -/
def rot (k : RotOp) (v : Byte) (cin : Bool) : Byte × Bool :=
  match k with
  | .rlc => ((v.extractLsb' 0 7 ++ v.extractLsb' 7 1 : BitVec 8), v.getLsbD 7)
  | .rrc => ((v.extractLsb' 0 1 ++ v.extractLsb' 1 7 : BitVec 8), v.getLsbD 0)
  | .rl => ((v.extractLsb' 0 7 ++ BitVec.ofBool cin : BitVec 8), v.getLsbD 7)
  | .rr => ((BitVec.ofBool cin ++ v.extractLsb' 1 7 : BitVec 8), v.getLsbD 0)
  | .sla => ((v.extractLsb' 0 7 ++ 0#1 : BitVec 8), v.getLsbD 7)
  | .sra => ((v.extractLsb' 7 1 ++ v.extractLsb' 1 7 : BitVec 8), v.getLsbD 0)
  | .sll => ((v.extractLsb' 0 7 ++ 1#1 : BitVec 8), v.getLsbD 7)
  | .srl => ((0#1 ++ v.extractLsb' 1 7 : BitVec 8), v.getLsbD 0)

/-- The preserve form of R384 under the old F. -/
def rotKeep (r : Byte × Bool) (f : Byte) : Byte := (f &&& 0xC4) ||| (r.1 &&& 0x28) ||| mask r.2 0x01

/-- The recompute form of R384. -/
def rotFresh (r : Byte × Bool) : Byte := szxyp r.1 ||| mask r.2 0x01

/-- BIT b of v with Y and X from src under the old F (R400 to R402). -/
def bitTest (b : Nat) (v src f : Byte) : Byte :=
  mask (!v.getLsbD b) 0x44 ||| mask (b == 7 && v.getLsbD b) 0x80 ||| 0x10 ||| (src &&& 0x28) |||
    (f &&& 0x01)

/-- F after a block transfer unit (R266): n is v + A, bc the new BC. -/
def transferFlags (n : Byte) (bc : Word) (f : Byte) : Byte :=
  (f &&& 0xC1) ||| mask (n.getLsbD 1) 0x20 ||| mask (n.getLsbD 3) 0x08 ||| mask (bc != 0) 0x04

/-- F after a block compare unit (R270) of a and v: bc the new BC. -/
def compareFlags (a v : Byte) (bc : Word) (f : Byte) : Byte :=
  let r : Byte := a - v
  let h : Bool := (a ^^^ v ^^^ r).getLsbD 4
  let n : Byte := r - mask h 1
  (r &&& 0x80) ||| mask (r == 0) 0x40 ||| mask h 0x10 ||| mask (n.getLsbD 1) 0x20 |||
    mask (n.getLsbD 3) 0x08 ||| mask (bc != 0) 0x04 ||| 0x02 ||| (f &&& 0x01)

/-- F after a block I/O unit (R452, R458): v the byte moved, b the new B, k the sum. -/
def portFlags (v b : Byte) (k : Nat) : Byte :=
  szxy b ||| mask (v.getLsbD 7) 0x02 ||| mask (decide (k > 0xFF)) 0x11 |||
    mask (parity (BitVec.ofNat 8 (k % 8) ^^^ b)) 0x04

/-- The tests of R420 on the bits of F. -/
def condition (cc : Cond) (f : Byte) : Bool :=
  match cc with
  | .nz => !f.getLsbD 6
  | .z => f.getLsbD 6
  | .nc => !f.getLsbD 0
  | .c => f.getLsbD 0
  | .po => !f.getLsbD 2
  | .pe => f.getLsbD 2
  | .p => !f.getLsbD 7
  | .m => f.getLsbD 7

/-- `IEI(k)` of R502: no node nearer the CPU is under service. -/
def iei (chain : List Node) (k : Nat) : Prop :=
  ∀ (j : Nat) (m : Node), j < k → chain[j]? = some m → m.ius = false

/-- The machine can step: it is powered and no fault is recorded (R660). -/
def ready (s : State) : Prop := s.power = .on ∧ s.faulted = none

end Sys2Proof.Spec

open Sys2Proof Sys2Proof.Machine Sys2Proof.Spec

/-! ## 8-bit loads (40_load8.md) -/

/-- R200 to R203, R208 to R210: the loads of a register, and what they leave unchanged. -/
def Obligations.LoadRegister : Prop :=
  (∀ (dst r : Reg8) (s : State), encode (Instr.ldRegReg dst r) = [opcode 1 (regCode dst) (regCode r)] ∧
    Completes (Instr.ldRegReg dst r) s [partOf dst, .cycles] [] fun t =>
      t.reg8 dst = s.reg8 r ∧ t.cycles = 4) ∧
  (∀ (r : Reg8) (n : Byte) (s : State), encode (Instr.ldRegImm r n) = [opcode 0 (regCode r) 6, n] ∧
    Completes (Instr.ldRegImm r n) s [partOf r, .cycles] [] fun t => t.reg8 r = n ∧ t.cycles = 7) ∧
  (∀ (r : Reg8) (s : State), encode (Instr.ldRegMem r) = [opcode 1 (regCode r) 6] ∧
    Completes (Instr.ldRegMem r) s [partOf r, .cycles] [] fun t =>
      t.reg8 r = s.read8 s.hl ∧ t.cycles = 7) ∧
  (∀ (r : Reg8) (x : Idx) (d : Byte) (s : State),
    encode (Instr.ldRegIdx r x d) = [lead x, opcode 1 (regCode r) 6, d] ∧
    Completes (Instr.ldRegIdx r x d) s [partOf r, .wz, .cycles] [] fun t =>
      t.reg8 r = s.read8 (effAddr x d s) ∧ t.wz = effAddr x d s ∧ t.cycles = 19) ∧
  (∀ s : State, encode .ld_A_mBC = [0x0A] ∧
    Completes .ld_A_mBC s [.a, .wz, .cycles] [] fun t =>
      t.a = s.read8 s.bc ∧ t.wz = s.bc + 1 ∧ t.cycles = 7) ∧
  (∀ s : State, encode .ld_A_mDE = [0x1A] ∧
    Completes .ld_A_mDE s [.a, .wz, .cycles] [] fun t =>
      t.a = s.read8 s.de ∧ t.wz = s.de + 1 ∧ t.cycles = 7) ∧
  (∀ (nn : Word) (s : State), encode (.ld_A_mnn nn) = [0x3A, lo nn, hi nn] ∧
    Completes (.ld_A_mnn nn) s [.a, .wz, .cycles] [] fun t =>
      t.a = s.read8 nn ∧ t.wz = nn + 1 ∧ t.cycles = 13)

/-- R204 to R207, R211 to R213: the byte stores. -/
def Obligations.StoreByte : Prop :=
  ∀ s : State, StateWf s = true →
  (∀ r : Reg8, encode (Instr.ldMemReg r) = [opcode 1 6 (regCode r)] ∧
    Completes (Instr.ldMemReg r) s [.memory, .cycles] [(s.hl, s.reg8 r)] fun t => t.cycles = 7) ∧
  (∀ (x : Idx) (r : Reg8) (d : Byte),
    encode (Instr.ldIdxReg x r d) = [lead x, opcode 1 6 (regCode r), d] ∧
    Completes (Instr.ldIdxReg x r d) s [.memory, .wz, .cycles] [(effAddr x d s, s.reg8 r)] fun t =>
      t.wz = effAddr x d s ∧ t.cycles = 19) ∧
  (∀ n : Byte, encode (.ld_mHL_n n) = [0x36, n] ∧
    Completes (.ld_mHL_n n) s [.memory, .cycles] [(s.hl, n)] fun t => t.cycles = 10) ∧
  (∀ (x : Idx) (d n : Byte), encode (Instr.ldIdxImm x d n) = [lead x, 0x36, d, n] ∧
    Completes (Instr.ldIdxImm x d n) s [.memory, .wz, .cycles] [(effAddr x d s, n)] fun t =>
      t.wz = effAddr x d s ∧ t.cycles = 19) ∧
  (encode .ld_mBC_A = [0x02] ∧
    Completes .ld_mBC_A s [.memory, .wz, .cycles] [(s.bc, s.a)] fun t =>
      t.wz = pair s.a (s.reg8 .c + 1) ∧ t.cycles = 7) ∧
  (encode .ld_mDE_A = [0x12] ∧
    Completes .ld_mDE_A s [.memory, .wz, .cycles] [(s.de, s.a)] fun t =>
      t.wz = pair s.a (s.reg8 .e + 1) ∧ t.cycles = 7) ∧
  (∀ nn : Word, encode (.ld_mnn_A nn) = [0x32, lo nn, hi nn] ∧
    Completes (.ld_mnn_A nn) s [.memory, .wz, .cycles] [(nn, s.a)] fun t =>
      t.wz = pair s.a (lo nn + 1) ∧ t.cycles = 13)

/-- R214, R216: the interrupt vector register. -/
def Obligations.InterruptRegisterTransfers : Prop :=
  (∀ s : State, encode .ld_A_I = [0xED, 0x57] ∧
    Completes .ld_A_I s [.a, .f, .cycles] [] fun t =>
      t.a = s.i ∧ t.f = Spec.szxy s.i ||| mask s.iff2 0x04 ||| (s.f &&& 0x01) ∧ t.cycles = 9) ∧
  (∀ s : State, encode .ld_I_A = [0xED, 0x47] ∧
    Completes .ld_I_A s [.i, .cycles] [] fun t => t.i = s.a ∧ t.cycles = 9)

/-- R215, R217: the refresh register, which the instruction's own two M1 fetches have counted. -/
def Obligations.RefreshRegisterTransfers : Prop :=
  encode .ld_A_R = [0xED, 0x5F] ∧ encode .ld_R_A = [0xED, 0x4F] ∧
  (∀ s u : State, fetch s = .ok (.ld_A_R, u) →
    Completes .ld_A_R u [.a, .f, .cycles] [] fun t =>
      t.a = incR (incR s.r) ∧ t.r = incR (incR s.r) ∧
        t.f = Spec.szxy t.a ||| mask s.iff2 0x04 ||| (s.f &&& 0x01) ∧ t.cycles = 9) ∧
  (∀ s u : State, fetch s = .ok (.ld_R_A, u) →
    Completes .ld_R_A u [.r, .cycles] [] fun t => t.r = s.a ∧ t.cycles = 9) ∧
  (∀ s : State, Completes .ld_A_R s [.a, .f, .cycles] [] fun t => t.a = s.r ∧
    t.f = Spec.szxy t.a ||| mask s.iff2 0x04 ||| (s.f &&& 0x01) ∧ t.cycles = 9) ∧
  (∀ s : State, Completes .ld_R_A s [.r, .cycles] [] fun t => t.r = s.a ∧ t.cycles = 9)

/-- R218, R219: the loads with index halves, forms that the spec admits by its own decision D10. -/
def Obligations.IndexHalfLoads : Prop :=
  (∀ (x : Idx) (k j : Half) (s : State),
    encode (Instr.ldHalfHalf x k j) = [lead x, opcode 1 (halfCode k) (halfCode j)] ∧
    Completes (Instr.ldHalfHalf x k j) s [partHalf x k, .cycles] [] fun t =>
      t.half x k = s.half x j ∧ t.cycles = 8) ∧
  (∀ (x : Idx) (k : Half) (r : PlainReg) (s : State),
    encode (Instr.ldHalfReg x k r) = [lead x, opcode 1 (halfCode k) (plainCode r)] ∧
    Completes (Instr.ldHalfReg x k r) s [partHalf x k, .cycles] [] fun t =>
      t.half x k = s.reg8 (PlainReg.toReg8 r) ∧ t.cycles = 8) ∧
  (∀ (r : PlainReg) (x : Idx) (k : Half) (s : State),
    encode (Instr.ldRegHalf r x k) = [lead x, opcode 1 (plainCode r) (halfCode k)] ∧
    Completes (Instr.ldRegHalf r x k) s [partOf (PlainReg.toReg8 r), .cycles] [] fun t =>
      t.reg8 (PlainReg.toReg8 r) = s.half x k ∧ t.cycles = 8) ∧
  (∀ (x : Idx) (k : Half) (n : Byte) (s : State),
    encode (Instr.ldHalfImm x k n) = [lead x, opcode 0 (halfCode k) 6, n] ∧
    Completes (Instr.ldHalfImm x k n) s [partHalf x k, .cycles] [] fun t =>
      t.half x k = n ∧ t.cycles = 11)

/-! ## 16-bit loads (41_load16.md) -/

/-- R230 to R234, R238, R239: the loads of a pair. -/
def Obligations.LoadPair : Prop :=
  (∀ (p : PairSS) (nn : Word) (s : State),
    encode (Instr.ldPairImm p nn) = [opcode 0 (2 * pairCode p) 1, lo nn, hi nn] ∧
    Completes (Instr.ldPairImm p nn) s (.cycles :: partsSS p) [] fun t =>
      t.pairSS p = nn ∧ t.cycles = 10) ∧
  (∀ (x : Idx) (nn : Word) (s : State),
    encode (Instr.ldIdxImm16 x nn) = [lead x, 0x21, lo nn, hi nn] ∧
    Completes (Instr.ldIdxImm16 x nn) s (.cycles :: partsIdx x) [] fun t =>
      t.idx x = nn ∧ t.cycles = 14) ∧
  (∀ (nn : Word) (s : State), encode (.ld_HL_mnn nn) = [0x2A, lo nn, hi nn] ∧
    Completes (.ld_HL_mnn nn) s [.h, .l, .wz, .cycles] [] fun t =>
      t.hl = pair (s.read8 (nn + 1)) (s.read8 nn) ∧ t.wz = nn + 1 ∧ t.cycles = 16) ∧
  (∀ (p : PairSS) (nn : Word) (s : State),
    encode (Instr.ldPairMem p nn) = [0xED, opcode 1 (2 * pairCode p + 1) 3, lo nn, hi nn] ∧
    Completes (Instr.ldPairMem p nn) s (.wz :: .cycles :: partsSS p) [] fun t =>
      t.pairSS p = pair (s.read8 (nn + 1)) (s.read8 nn) ∧ t.wz = nn + 1 ∧ t.cycles = 20) ∧
  (∀ (x : Idx) (nn : Word) (s : State),
    encode (Instr.ldIdxMem x nn) = [lead x, 0x2A, lo nn, hi nn] ∧
    Completes (Instr.ldIdxMem x nn) s (.wz :: .cycles :: partsIdx x) [] fun t =>
      t.idx x = pair (s.read8 (nn + 1)) (s.read8 nn) ∧ t.wz = nn + 1 ∧ t.cycles = 20) ∧
  (∀ s : State, encode .ld_SP_HL = [0xF9] ∧
    Completes .ld_SP_HL s [.sp, .cycles] [] fun t => t.sp = s.hl ∧ t.cycles = 6) ∧
  (∀ (x : Idx) (s : State), encode (Instr.ldSpIdx x) = [lead x, 0xF9] ∧
    Completes (Instr.ldSpIdx x) s [.sp, .cycles] [] fun t => t.sp = s.idx x ∧ t.cycles = 10)

/-- R235 to R237: the stores of a pair, the low byte at nn, then the high byte at nn + 1. -/
def Obligations.StorePair : Prop :=
  ∀ s : State, StateWf s = true →
  (∀ nn : Word, encode (.ld_mnn_HL nn) = [0x22, lo nn, hi nn] ∧
    Completes (.ld_mnn_HL nn) s [.memory, .wz, .cycles] [(nn + 1, hi s.hl), (nn, lo s.hl)] fun t =>
      t.wz = nn + 1 ∧ t.cycles = 16) ∧
  (∀ (p : PairSS) (nn : Word),
    encode (Instr.ldMemPair p nn) = [0xED, opcode 1 (2 * pairCode p) 3, lo nn, hi nn] ∧
    Completes (Instr.ldMemPair p nn) s [.memory, .wz, .cycles]
      [(nn + 1, hi (s.pairSS p)), (nn, lo (s.pairSS p))] fun t => t.wz = nn + 1 ∧ t.cycles = 20) ∧
  (∀ (x : Idx) (nn : Word), encode (Instr.ldMemIdx x nn) = [lead x, 0x22, lo nn, hi nn] ∧
    Completes (Instr.ldMemIdx x nn) s [.memory, .wz, .cycles]
      [(nn + 1, hi (s.idx x)), (nn, lo (s.idx x))] fun t => t.wz = nn + 1 ∧ t.cycles = 20)

/-- R240, R241: the high byte at SP - 1, then the low byte at SP - 2. -/
def Obligations.PushPair : Prop :=
  ∀ s : State, StateWf s = true →
  (∀ p : PairQQ, encode (Instr.pushPair p) = [opcode 3 (2 * stackCode p) 5] ∧
    Completes (Instr.pushPair p) s [.memory, .sp, .cycles]
      [(s.sp - 2, lo (s.pairQQ p)), (s.sp - 1, hi (s.pairQQ p))] fun t =>
        t.sp = s.sp - 2 ∧ t.cycles = 11) ∧
  (∀ x : Idx, encode (Instr.pushIdx x) = [lead x, 0xE5] ∧
    Completes (Instr.pushIdx x) s [.memory, .sp, .cycles]
      [(s.sp - 2, lo (s.idx x)), (s.sp - 1, hi (s.idx x))] fun t => t.sp = s.sp - 2 ∧ t.cycles = 15)

/-- R242, R243: the word at SP, and SP + 2. -/
def Obligations.PopPair : Prop :=
  (∀ (p : PairQQ) (s : State), encode (Instr.popPair p) = [opcode 3 (2 * stackCode p) 1] ∧
    Completes (Instr.popPair p) s (.sp :: .cycles :: partsQQ p) [] fun t =>
      t.pairQQ p = pair (s.read8 (s.sp + 1)) (s.read8 s.sp) ∧ t.sp = s.sp + 2 ∧ t.cycles = 10) ∧
  (∀ (x : Idx) (s : State), encode (Instr.popIdx x) = [lead x, 0xE1] ∧
    Completes (Instr.popIdx x) s (.sp :: .cycles :: partsIdx x) [] fun t =>
      t.idx x = pair (s.read8 (s.sp + 1)) (s.read8 s.sp) ∧ t.sp = s.sp + 2 ∧ t.cycles = 14)

/-! ## Exchanges and block instructions (42_exchange_block.md) -/

/-- R260 to R262: the exchanges of registers. That EXX exchanges WZ too is the spec's own decision
D14. -/
def Obligations.Exchanges : Prop :=
  (∀ s : State, encode .ex_DE_HL = [0xEB] ∧
    Completes .ex_DE_HL s [.d, .e, .h, .l, .cycles] [] fun t =>
      t.de = s.hl ∧ t.hl = s.de ∧ t.cycles = 4) ∧
  (∀ s : State, encode .ex_AF_AF = [0x08] ∧
    Completes .ex_AF_AF s [.a, .f, .af', .cycles] [] fun t =>
      t.af = s.af' ∧ t.af' = s.af ∧ t.cycles = 4) ∧
  (∀ s : State, encode .exx = [0xD9] ∧
    Completes .exx s [.b, .c, .d, .e, .h, .l, .wz, .bc', .de', .hl', .wz', .cycles] [] fun t =>
      t.bc = s.bc' ∧ t.de = s.de' ∧ t.hl = s.hl' ∧ t.wz = s.wz' ∧
        t.bc' = s.bc ∧ t.de' = s.de ∧ t.hl' = s.hl ∧ t.wz' = s.wz ∧ t.cycles = 4)

/-- R263, R264: the exchanges with the word at SP; SP does not change. -/
def Obligations.ExchangeStackTop : Prop :=
  ∀ s : State, StateWf s = true →
  (encode .ex_mSP_HL = [0xE3] ∧
    Completes .ex_mSP_HL s [.memory, .h, .l, .wz, .cycles]
      [(s.sp + 1, hi s.hl), (s.sp, lo s.hl)] fun t =>
        t.hl = pair (s.read8 (s.sp + 1)) (s.read8 s.sp) ∧ t.wz = t.hl ∧ t.cycles = 19) ∧
  (∀ x : Idx, encode (Instr.exSpIdx x) = [lead x, 0xE3] ∧
    Completes (Instr.exSpIdx x) s (.memory :: .wz :: .cycles :: partsIdx x)
      [(s.sp + 1, hi (s.idx x)), (s.sp, lo (s.idx x))] fun t =>
        t.idx x = pair (s.read8 (s.sp + 1)) (s.read8 s.sp) ∧ t.wz = t.idx x ∧ t.cycles = 23)

/-- R266, R268: one unit of a block transfer. -/
def Obligations.BlockTransfer : Prop :=
  encode .ldi = [0xED, 0xA0] ∧ encode .ldd = [0xED, 0xA8] ∧
  ∀ s : State, StateWf s = true →
  (Completes .ldi s [.memory, .b, .c, .d, .e, .h, .l, .f, .cycles] [(s.de, s.read8 s.hl)] fun t =>
    t.hl = s.hl + 1 ∧ t.de = s.de + 1 ∧ t.bc = s.bc - 1 ∧
      t.f = transferFlags (s.read8 s.hl + s.a) (s.bc - 1) s.f ∧ t.cycles = 16) ∧
  (Completes .ldd s [.memory, .b, .c, .d, .e, .h, .l, .f, .cycles] [(s.de, s.read8 s.hl)] fun t =>
    t.hl = s.hl - 1 ∧ t.de = s.de - 1 ∧ t.bc = s.bc - 1 ∧
      t.f = transferFlags (s.read8 s.hl + s.a) (s.bc - 1) s.f ∧ t.cycles = 16)

/-- R270, R271, R273: one unit of a block compare; Y and X from A - v - H are the spec's decision D12. -/
def Obligations.BlockCompare : Prop :=
  encode .cpi = [0xED, 0xA1] ∧ encode .cpd = [0xED, 0xA9] ∧
  (∀ s : State, Completes .cpi s [.b, .c, .h, .l, .f, .wz, .cycles] [] fun t =>
    t.hl = s.hl + 1 ∧ t.bc = s.bc - 1 ∧ t.wz = s.wz + 1 ∧
      t.f = compareFlags s.a (s.read8 s.hl) (s.bc - 1) s.f ∧ t.cycles = 16) ∧
  (∀ s : State, Completes .cpd s [.b, .c, .h, .l, .f, .wz, .cycles] [] fun t =>
    t.hl = s.hl - 1 ∧ t.bc = s.bc - 1 ∧ t.wz = s.wz - 1 ∧
      t.f = compareFlags s.a (s.read8 s.hl) (s.bc - 1) s.f ∧ t.cycles = 16)

/-- R267, R269, R272, R274: a repeating form is its unit, and where the unit's condition says so it
goes back to its own first byte (pc - 2, pc being past the instruction) with WZ = start + 1 and 21
cycles. -/
def Obligations.BlockRepeat : Prop :=
  encode .ldir = [0xED, 0xB0] ∧ encode .lddr = [0xED, 0xB8] ∧ encode .cpir = [0xED, 0xB1] ∧
  encode .cpdr = [0xED, 0xB9] ∧
  (∀ s : State, ∃ u : State, exec .ldi s = .next u ∧ exec .ldir s = .next
    (if u.bc ≠ 0 then { u with pc := s.pc - 2, wz := s.pc - 2 + 1, cycles := 21 } else u)) ∧
  (∀ s : State, ∃ u : State, exec .ldd s = .next u ∧ exec .lddr s = .next
    (if u.bc ≠ 0 then { u with pc := s.pc - 2, wz := s.pc - 2 + 1, cycles := 21 } else u)) ∧
  (∀ s : State, ∃ u : State, exec .cpi s = .next u ∧ exec .cpir s = .next
    (if u.bc ≠ 0 ∧ s.a - s.read8 s.hl ≠ 0 then
      { u with pc := s.pc - 2, wz := s.pc - 2 + 1, cycles := 21 } else u)) ∧
  (∀ s : State, ∃ u : State, exec .cpd s = .next u ∧ exec .cpdr s = .next
    (if u.bc ≠ 0 ∧ s.a - s.read8 s.hl ≠ 0 then
      { u with pc := s.pc - 2, wz := s.pc - 2 + 1, cycles := 21 } else u))

/-! ## 8-bit arithmetic and logic (43_alu8.md) -/

/-- R300 to R302, R310 to R317: the eight accumulator operations on every operand form. The index-half
forms are admitted by decision D10; CP's Y and X follow P_CP_XY_SOURCE (C3, D12), in both its settings
(log entry 9). -/
def Obligations.AccumulatorOperations : Prop :=
  ∀ (op : AluOp) (s : State),
  (∀ r : Reg8, encode (Instr.aluReg op r) = [opcode 2 (aluCode op) (regCode r)] ∧
    Completes (Instr.aluReg op r) s [.a, .f, .cycles] [] fun t =>
      (t.a, t.f) = accumulator op s.a (s.reg8 r) (carry s) s.params.cpXySource ∧ t.cycles = 4) ∧
  (∀ n : Byte, encode (Instr.aluImm op n) = [opcode 3 (aluCode op) 6, n] ∧
    Completes (Instr.aluImm op n) s [.a, .f, .cycles] [] fun t =>
      (t.a, t.f) = accumulator op s.a n (carry s) s.params.cpXySource ∧ t.cycles = 7) ∧
  (encode (Instr.aluMem op) = [opcode 2 (aluCode op) 6] ∧
    Completes (Instr.aluMem op) s [.a, .f, .cycles] [] fun t =>
      (t.a, t.f) = accumulator op s.a (s.read8 s.hl) (carry s) s.params.cpXySource ∧
        t.cycles = 7) ∧
  (∀ (x : Idx) (d : Byte), encode (Instr.aluIdx op x d) = [lead x, opcode 2 (aluCode op) 6, d] ∧
    Completes (Instr.aluIdx op x d) s [.a, .f, .wz, .cycles] [] fun t =>
      (t.a, t.f) =
          accumulator op s.a (s.read8 (effAddr x d s)) (carry s) s.params.cpXySource ∧
        t.wz = effAddr x d s ∧ t.cycles = 19) ∧
  (∀ (x : Idx) (k : Half),
    encode (Instr.aluHalf op x k) = [lead x, opcode 2 (aluCode op) (halfCode k)] ∧
    Completes (Instr.aluHalf op x k) s [.a, .f, .cycles] [] fun t =>
      (t.a, t.f) = accumulator op s.a (s.half x k) (carry s) s.params.cpXySource ∧ t.cycles = 8)

/-- R318, R321, R324, R325: INC and DEC of a register and of an index half (decision D10). -/
def Obligations.IncrementDecrement : Prop :=
  (∀ (r : Reg8) (s : State), encode (Instr.incReg r) = [opcode 0 (regCode r) 4] ∧
    Completes (Instr.incReg r) s [partOf r, .f, .cycles] [] fun t =>
      (t.reg8 r, t.f) = inc (s.reg8 r) s.f ∧ t.cycles = 4) ∧
  (∀ (r : Reg8) (s : State), encode (Instr.decReg r) = [opcode 0 (regCode r) 5] ∧
    Completes (Instr.decReg r) s [partOf r, .f, .cycles] [] fun t =>
      (t.reg8 r, t.f) = dec (s.reg8 r) s.f ∧ t.cycles = 4) ∧
  (∀ (x : Idx) (k : Half) (s : State),
    encode (Instr.incHalf x k) = [lead x, opcode 0 (halfCode k) 4] ∧
    Completes (Instr.incHalf x k) s [partHalf x k, .f, .cycles] [] fun t =>
      (t.half x k, t.f) = inc (s.half x k) s.f ∧ t.cycles = 8) ∧
  (∀ (x : Idx) (k : Half) (s : State),
    encode (Instr.decHalf x k) = [lead x, opcode 0 (halfCode k) 5] ∧
    Completes (Instr.decHalf x k) s [partHalf x k, .f, .cycles] [] fun t =>
      (t.half x k, t.f) = dec (s.half x k) s.f ∧ t.cycles = 8)

/-- R319, R320, R322, R323: INC and DEC of a memory byte. -/
def Obligations.IncrementDecrementMemory : Prop :=
  ∀ s : State, StateWf s = true →
  (encode .inc_mHL = [0x34] ∧
    Completes .inc_mHL s [.memory, .f, .cycles] [(s.hl, (inc (s.read8 s.hl) s.f).1)] fun t =>
      t.f = (inc (s.read8 s.hl) s.f).2 ∧ t.cycles = 11) ∧
  (encode .dec_mHL = [0x35] ∧
    Completes .dec_mHL s [.memory, .f, .cycles] [(s.hl, (dec (s.read8 s.hl) s.f).1)] fun t =>
      t.f = (dec (s.read8 s.hl) s.f).2 ∧ t.cycles = 11) ∧
  (∀ (x : Idx) (d : Byte), encode (Instr.incIdx x d) = [lead x, 0x34, d] ∧
    Completes (Instr.incIdx x d) s [.memory, .f, .wz, .cycles]
      [(effAddr x d s, (inc (s.read8 (effAddr x d s)) s.f).1)] fun t =>
        t.f = (inc (s.read8 (effAddr x d s)) s.f).2 ∧ t.wz = effAddr x d s ∧ t.cycles = 23) ∧
  (∀ (x : Idx) (d : Byte), encode (Instr.decIdx x d) = [lead x, 0x35, d] ∧
    Completes (Instr.decIdx x d) s [.memory, .f, .wz, .cycles]
      [(effAddr x d s, (dec (s.read8 (effAddr x d s)) s.f).1)] fun t =>
        t.f = (dec (s.read8 (effAddr x d s)) s.f).2 ∧ t.wz = effAddr x d s ∧ t.cycles = 23)

/-- R326 (the reading of 90_conflicts.md C1): SUB after ADD gives the byte back, with the same C and H.
Said of the model's own adder and subtractor. -/
def Obligations.AddSubtractRoundTrip : Prop :=
  ∀ a b : Byte,
    (Machine.sub8 (Machine.add8 a b false).1 b false).1 = a ∧
    (Machine.sub8 (Machine.add8 a b false).1 b false).2.c = (Machine.add8 a b false).2.c ∧
    (Machine.sub8 (Machine.add8 a b false).1 b false).2.h = (Machine.add8 a b false).2.h

/-! ## General-purpose and control (44_general_cpu_control.md) -/

/-- R330 to R334: DAA, CPL, NEG, CCF, SCF. -/
def Obligations.AccumulatorAdjust : Prop :=
  (∀ s : State, encode .daa = [0x27] ∧ Completes .daa s [.a, .f, .cycles] [] fun t =>
    (t.a, t.f) = daa s.a s.f ∧ t.cycles = 4) ∧
  (∀ s : State, encode .cpl = [0x2F] ∧ Completes .cpl s [.a, .f, .cycles] [] fun t =>
    t.a = s.a ^^^ 0xFF ∧ t.f = (s.f &&& 0xC5) ||| 0x12 ||| (t.a &&& 0x28) ∧ t.cycles = 4) ∧
  (∀ s : State, encode .neg = [0xED, 0x44] ∧ Completes .neg s [.a, .f, .cycles] [] fun t =>
    (t.a, t.f) = Spec.sub8 0 s.a false ∧ t.cycles = 8) ∧
  (∀ s : State, encode .ccf = [0x3F] ∧ Completes .ccf s [.f, .cycles] [] fun t =>
    t.f = (s.f &&& 0xC4) ||| (s.a &&& 0x28) ||| mask (carry s) 0x10 ||| mask (!carry s) 0x01 ∧
      t.cycles = 4) ∧
  (∀ s : State, encode .scf = [0x37] ∧ Completes .scf s [.f, .cycles] [] fun t =>
    t.f = (s.f &&& 0xC4) ||| (s.a &&& 0x28) ||| 0x01 ∧ t.cycles = 4)

/-- R335 to R338, R341: NOP, HALT, DI, EI, IM 2. That pc is past the HALT, and the EI shadow latch, are
the spec's decisions D25 and D23. -/
def Obligations.ControlInstructions : Prop :=
  (∀ s : State, encode .nop = [0x00] ∧ Completes .nop s [.cycles] [] fun t => t.cycles = 4) ∧
  (∀ s : State, encode .halt = [0x76] ∧ Completes .halt s [.halted, .cycles] [] fun t =>
    t.halted = true ∧ t.cycles = 4) ∧
  (∀ s : State, encode .di = [0xF3] ∧ Completes .di s [.iff1, .iff2, .cycles] [] fun t =>
    t.iff1 = false ∧ t.iff2 = false ∧ t.cycles = 4) ∧
  (∀ s : State, encode .ei = [0xFB] ∧
    Completes .ei s [.iff1, .iff2, .eiShadow, .cycles] [] fun t =>
      t.iff1 = true ∧ t.iff2 = true ∧ t.eiShadow = true ∧ t.cycles = 4) ∧
  (∀ s : State, encode .im_2 = [0xED, 0x5E] ∧ Completes .im_2 s [.im, .cycles] [] fun t =>
    t.im = .im2 ∧ t.cycles = 8)

/-- R339, R340, R530: IM 0 and IM 1 fault in every state. That the step's fault carries the pc of its
first byte, and that the host call keeps the state from before the step with the fault recorded, are
R530 with the spec's decision D24, in the model's form (log entries 16 and 12). -/
def Obligations.LegacyInterruptModes : Prop :=
  encode .im_0 = [0xED, 0x46] ∧ encode .im_1 = [0xED, 0x56] ∧
  (∀ s : State, exec .im_0 s = .fault (.unsupportedInterruptMode (s.pc - 2)) ∧
    exec .im_1 s = .fault (.unsupportedInterruptMode (s.pc - 2))) ∧
  (∀ (s u : State) (i : Instr), (i = .im_0 ∨ i = .im_1) → ready s → s.halted = false →
    fetch s = .ok (i, u) →
    step s = .fault (.unsupportedInterruptMode s.pc) ∧
    stepOneInstruction s =
      .ok ({ s with faulted := some s.pc }, .fault (.unsupportedInterruptMode s.pc)))

/-! ## 16-bit arithmetic (45_alu16.md) -/

/-- R359 to R363: the 16-bit additions and subtractions. -/
def Obligations.SixteenBitArithmetic : Prop :=
  (∀ (p : PairSS) (s : State), encode (Instr.addHlPair p) = [opcode 0 (2 * pairCode p + 1) 1] ∧
    Completes (Instr.addHlPair p) s [.h, .l, .f, .wz, .cycles] [] fun t =>
      (t.hl, t.f) = Spec.add16 s.hl (s.pairSS p) s.f ∧ t.wz = s.hl + 1 ∧ t.cycles = 11) ∧
  (∀ (p : PairSS) (s : State),
    encode (Instr.adcHlPair p) = [0xED, opcode 1 (2 * pairCode p + 1) 2] ∧
    Completes (Instr.adcHlPair p) s [.h, .l, .f, .wz, .cycles] [] fun t =>
      (t.hl, t.f) = Spec.adc16 s.hl (s.pairSS p) (carry s) ∧ t.wz = s.hl + 1 ∧ t.cycles = 15) ∧
  (∀ (p : PairSS) (s : State), encode (Instr.sbcHlPair p) = [0xED, opcode 1 (2 * pairCode p) 2] ∧
    Completes (Instr.sbcHlPair p) s [.h, .l, .f, .wz, .cycles] [] fun t =>
      (t.hl, t.f) = Spec.sbc16 s.hl (s.pairSS p) (carry s) ∧ t.wz = s.hl + 1 ∧ t.cycles = 15) ∧
  (∀ (x : Idx) (p : PairPP) (s : State),
    encode (Instr.addIdxPair x p) = [lead x, opcode 0 (2 * indexPairCode p + 1) 1] ∧
    Completes (Instr.addIdxPair x p) s (.f :: .wz :: .cycles :: partsIdx x) [] fun t =>
      (t.idx x, t.f) = Spec.add16 (s.idx x) (s.pairPP x p) s.f ∧ t.wz = s.idx x + 1 ∧
        t.cycles = 15)

/-- R364 to R367: INC and DEC of a pair write no flag. -/
def Obligations.IncrementDecrementPairs : Prop :=
  (∀ (p : PairSS) (s : State), encode (Instr.incPair p) = [opcode 0 (2 * pairCode p) 3] ∧
    Completes (Instr.incPair p) s (.cycles :: partsSS p) [] fun t =>
      t.pairSS p = s.pairSS p + 1 ∧ t.cycles = 6) ∧
  (∀ (p : PairSS) (s : State), encode (Instr.decPair p) = [opcode 0 (2 * pairCode p + 1) 3] ∧
    Completes (Instr.decPair p) s (.cycles :: partsSS p) [] fun t =>
      t.pairSS p = s.pairSS p - 1 ∧ t.cycles = 6) ∧
  (∀ (x : Idx) (s : State), encode (Instr.incIdx16 x) = [lead x, 0x23] ∧
    Completes (Instr.incIdx16 x) s (.cycles :: partsIdx x) [] fun t =>
      t.idx x = s.idx x + 1 ∧ t.cycles = 10) ∧
  (∀ (x : Idx) (s : State), encode (Instr.decIdx16 x) = [lead x, 0x2B] ∧
    Completes (Instr.decIdx16 x) s (.cycles :: partsIdx x) [] fun t =>
      t.idx x = s.idx x - 1 ∧ t.cycles = 10)

/-! ## Rotates and shifts (46_rotate_shift.md) -/

/-- R380 to R383, with the preserve form of R384. -/
def Obligations.AccumulatorRotates : Prop :=
  (∀ s : State, encode .rlca = [0x07] ∧ Completes .rlca s [.a, .f, .cycles] [] fun t =>
    t.a = (Spec.rot .rlc s.a (carry s)).1 ∧ t.f = rotKeep (Spec.rot .rlc s.a (carry s)) s.f ∧
      t.cycles = 4) ∧
  (∀ s : State, encode .rla = [0x17] ∧ Completes .rla s [.a, .f, .cycles] [] fun t =>
    t.a = (Spec.rot .rl s.a (carry s)).1 ∧ t.f = rotKeep (Spec.rot .rl s.a (carry s)) s.f ∧
      t.cycles = 4) ∧
  (∀ s : State, encode .rrca = [0x0F] ∧ Completes .rrca s [.a, .f, .cycles] [] fun t =>
    t.a = (Spec.rot .rrc s.a (carry s)).1 ∧ t.f = rotKeep (Spec.rot .rrc s.a (carry s)) s.f ∧
      t.cycles = 4) ∧
  (∀ s : State, encode .rra = [0x1F] ∧ Completes .rra s [.a, .f, .cycles] [] fun t =>
    t.a = (Spec.rot .rr s.a (carry s)).1 ∧ t.f = rotKeep (Spec.rot .rr s.a (carry s)) s.f ∧
      t.cycles = 4)

/-- R384 (recompute form), R386 to R393: the CB rotates and shifts on every operand form, with the copy
of the DDCB and FDCB forms, which is the spec's reading of its source (R385), as SLL is of decision
D10. -/
def Obligations.RotateShift : Prop :=
  (∀ (k : RotOp) (r : Reg8) (s : State),
    encode (Instr.rotReg k r) = [0xCB, opcode 0 (rotCode k) (regCode r)] ∧
    Completes (Instr.rotReg k r) s [partOf r, .f, .cycles] [] fun t =>
      t.reg8 r = (Spec.rot k (s.reg8 r) (carry s)).1 ∧
        t.f = rotFresh (Spec.rot k (s.reg8 r) (carry s)) ∧ t.cycles = 8) ∧
  ∀ s : State, StateWf s = true →
  (∀ k : RotOp, encode (Instr.rotMem k) = [0xCB, opcode 0 (rotCode k) 6] ∧
    Completes (Instr.rotMem k) s [.memory, .f, .cycles]
      [(s.hl, (Spec.rot k (s.read8 s.hl) (carry s)).1)] fun t =>
        t.f = rotFresh (Spec.rot k (s.read8 s.hl) (carry s)) ∧ t.cycles = 15) ∧
  (∀ (k : RotOp) (x : Idx) (d : Byte),
    encode (Instr.rotIdx k x d) = [lead x, 0xCB, d, opcode 0 (rotCode k) 6] ∧
    Completes (Instr.rotIdx k x d) s [.memory, .f, .wz, .cycles]
      [(effAddr x d s, (Spec.rot k (s.read8 (effAddr x d s)) (carry s)).1)] fun t =>
        t.f = rotFresh (Spec.rot k (s.read8 (effAddr x d s)) (carry s)) ∧
          t.wz = effAddr x d s ∧ t.cycles = 23) ∧
  (∀ (k : RotOp) (x : Idx) (r : Reg8) (d : Byte),
    encode (Instr.rotIdxCopy k x r d) = [lead x, 0xCB, d, opcode 0 (rotCode k) (regCode r)] ∧
    Completes (Instr.rotIdxCopy k x r d) s [.memory, partOf r, .f, .wz, .cycles]
      [(effAddr x d s, (Spec.rot k (s.read8 (effAddr x d s)) (carry s)).1)] fun t =>
        t.reg8 r = (Spec.rot k (s.read8 (effAddr x d s)) (carry s)).1 ∧
          t.f = rotFresh (Spec.rot k (s.read8 (effAddr x d s)) (carry s)) ∧
          t.wz = effAddr x d s ∧ t.cycles = 23)

/-- R386 (its corner case; 90_conflicts.md C2): eight RLC give the register back, and C is its bit 0. -/
def Obligations.EightRotations : Prop :=
  ∀ (r : Reg8) (s0 : State), ∃ s1 s2 s3 s4 s5 s6 s7 s8 : State,
    exec (Instr.rotReg .rlc r) s0 = .next s1 ∧ exec (Instr.rotReg .rlc r) s1 = .next s2 ∧
    exec (Instr.rotReg .rlc r) s2 = .next s3 ∧ exec (Instr.rotReg .rlc r) s3 = .next s4 ∧
    exec (Instr.rotReg .rlc r) s4 = .next s5 ∧ exec (Instr.rotReg .rlc r) s5 = .next s6 ∧
    exec (Instr.rotReg .rlc r) s6 = .next s7 ∧ exec (Instr.rotReg .rlc r) s7 = .next s8 ∧
    s8.reg8 r = s0.reg8 r ∧ carry s8 = (s0.reg8 r).getLsbD 0

/-- R395, R396: RLD and RRD. -/
def Obligations.DigitRotates : Prop :=
  encode .rld = [0xED, 0x6F] ∧ encode .rrd = [0xED, 0x67] ∧
  ∀ s : State, StateWf s = true →
  (Completes .rld s [.memory, .a, .f, .wz, .cycles]
    [(s.hl, (s.read8 s.hl <<< 4) ||| (s.a &&& 0x0F))] fun t =>
      t.a = (s.a &&& 0xF0) ||| (s.read8 s.hl >>> 4) ∧ t.f = Spec.szxyp t.a ||| (s.f &&& 0x01) ∧
        t.wz = s.hl + 1 ∧ t.cycles = 18) ∧
  (Completes .rrd s [.memory, .a, .f, .wz, .cycles]
    [(s.hl, (s.a <<< 4) ||| (s.read8 s.hl >>> 4))] fun t =>
      t.a = (s.a &&& 0xF0) ||| (s.read8 s.hl &&& 0x0F) ∧ t.f = Spec.szxyp t.a ||| (s.f &&& 0x01) ∧
        t.wz = s.hl + 1 ∧ t.cycles = 18)

/-! ## Bit operations (47_bit.md) -/

/-- R400 to R402: BIT, with Y and X from the register, or from W for a memory operand. -/
def Obligations.BitTest : Prop :=
  (∀ (b : Field3) (r : Reg8) (s : State),
    encode (Instr.bitReg b r) = [0xCB, opcode 1 b.value (regCode r)] ∧
    Completes (Instr.bitReg b r) s [.f, .cycles] [] fun t =>
      t.f = bitTest b.value (s.reg8 r) (s.reg8 r) s.f ∧ t.cycles = 8) ∧
  (∀ (b : Field3) (s : State), encode (Instr.bitMem b) = [0xCB, opcode 1 b.value 6] ∧
    Completes (Instr.bitMem b) s [.f, .cycles] [] fun t =>
      t.f = bitTest b.value (s.read8 s.hl) (hi s.wz) s.f ∧ t.cycles = 12) ∧
  (∀ (b z : Field3) (x : Idx) (d : Byte) (s : State),
    encode (Instr.bitIdx b x z d) = [lead x, 0xCB, d, opcode 1 b.value z.value] ∧
    Completes (Instr.bitIdx b x z d) s [.f, .wz, .cycles] [] fun t =>
      t.f = bitTest b.value (s.read8 (effAddr x d s)) (hi (effAddr x d s)) s.f ∧
        t.wz = effAddr x d s ∧ t.cycles = 20)

/-- R403, R404: SET and RES on every operand form, with the copy of the DDCB and FDCB forms, which is the
spec's reading of its source (R385). -/
def Obligations.SetReset : Prop :=
  (∀ (b : Field3) (r : Reg8) (s : State),
    encode (Instr.setBitReg b r) = [0xCB, opcode 3 b.value (regCode r)] ∧
    encode (Instr.resBitReg b r) = [0xCB, opcode 2 b.value (regCode r)] ∧
    (Completes (Instr.setBitReg b r) s [partOf r, .cycles] [] fun t =>
      t.reg8 r = s.reg8 r ||| (1#8 <<< b.value) ∧ t.cycles = 8) ∧
    (Completes (Instr.resBitReg b r) s [partOf r, .cycles] [] fun t =>
      t.reg8 r = s.reg8 r &&& ~~~(1#8 <<< b.value) ∧ t.cycles = 8)) ∧
  ∀ (b : Field3) (s : State), StateWf s = true →
  (encode (Instr.setBitMem b) = [0xCB, opcode 3 b.value 6] ∧
    encode (Instr.resBitMem b) = [0xCB, opcode 2 b.value 6] ∧
    (Completes (Instr.setBitMem b) s [.memory, .cycles]
      [(s.hl, s.read8 s.hl ||| (1#8 <<< b.value))] fun t => t.cycles = 15) ∧
    (Completes (Instr.resBitMem b) s [.memory, .cycles]
      [(s.hl, s.read8 s.hl &&& ~~~(1#8 <<< b.value))] fun t => t.cycles = 15)) ∧
  (∀ (x : Idx) (d : Byte),
    encode (Instr.setBitIdx b x d) = [lead x, 0xCB, d, opcode 3 b.value 6] ∧
    encode (Instr.resBitIdx b x d) = [lead x, 0xCB, d, opcode 2 b.value 6] ∧
    (Completes (Instr.setBitIdx b x d) s [.memory, .wz, .cycles]
      [(effAddr x d s, s.read8 (effAddr x d s) ||| (1#8 <<< b.value))] fun t =>
        t.wz = effAddr x d s ∧ t.cycles = 23) ∧
    (Completes (Instr.resBitIdx b x d) s [.memory, .wz, .cycles]
      [(effAddr x d s, s.read8 (effAddr x d s) &&& ~~~(1#8 <<< b.value))] fun t =>
        t.wz = effAddr x d s ∧ t.cycles = 23)) ∧
  (∀ (x : Idx) (r : Reg8) (d : Byte),
    encode (Instr.setBitIdxCopy b x r d) = [lead x, 0xCB, d, opcode 3 b.value (regCode r)] ∧
    encode (Instr.resBitIdxCopy b x r d) = [lead x, 0xCB, d, opcode 2 b.value (regCode r)] ∧
    (Completes (Instr.setBitIdxCopy b x r d) s [.memory, partOf r, .wz, .cycles]
      [(effAddr x d s, s.read8 (effAddr x d s) ||| (1#8 <<< b.value))] fun t =>
        t.reg8 r = s.read8 (effAddr x d s) ||| (1#8 <<< b.value) ∧ t.wz = effAddr x d s ∧
          t.cycles = 23) ∧
    (Completes (Instr.resBitIdxCopy b x r d) s [.memory, partOf r, .wz, .cycles]
      [(effAddr x d s, s.read8 (effAddr x d s) &&& ~~~(1#8 <<< b.value))] fun t =>
        t.reg8 r = s.read8 (effAddr x d s) &&& ~~~(1#8 <<< b.value) ∧ t.wz = effAddr x d s ∧
          t.cycles = 23))

/-! ## Jumps, calls, returns (48_jump_call_return.md) -/

/-- R420 to R427: the jumps, taken and not. -/
def Obligations.Jumps : Prop :=
  (∀ (nn : Word) (s : State), encode (.jp_nn nn) = [0xC3, lo nn, hi nn] ∧
    Completes (.jp_nn nn) s [.pc, .wz, .cycles] [] fun t =>
      t.pc = nn ∧ t.wz = nn ∧ t.cycles = 10) ∧
  (∀ (cc : Cond) (nn : Word) (s : State),
    encode (Instr.jpCond cc nn) = [opcode 3 (condCode cc) 2, lo nn, hi nn] ∧
    Completes (Instr.jpCond cc nn) s [.pc, .wz, .cycles] [] fun t =>
      t.pc = (if condition cc s.f then nn else s.pc) ∧ t.wz = nn ∧ t.cycles = 10) ∧
  (∀ (e : Byte) (s : State), encode (.jr_e e) = [0x18, e] ∧
    Completes (.jr_e e) s [.pc, .wz, .cycles] [] fun t =>
      t.pc = relTarget e s ∧ t.wz = relTarget e s ∧ t.cycles = 12) ∧
  (∀ (cc : JrCond) (e : Byte) (s : State),
    encode (Instr.jrCond cc e) = [opcode 0 (4 + condCode (JrCond.toCond cc)) 0, e] ∧
    Completes (Instr.jrCond cc e) s [.pc, .wz, .cycles] [] fun t =>
      if condition (JrCond.toCond cc) s.f then t.pc = relTarget e s ∧ t.wz = relTarget e s ∧ t.cycles = 12
      else t.pc = s.pc ∧ t.wz = s.wz ∧ t.cycles = 7) ∧
  (∀ s : State, encode .jp_mHL = [0xE9] ∧
    Completes .jp_mHL s [.pc, .cycles] [] fun t => t.pc = s.hl ∧ t.cycles = 4) ∧
  (∀ (x : Idx) (s : State), encode (Instr.jpIdx x) = [lead x, 0xE9] ∧
    Completes (Instr.jpIdx x) s [.pc, .cycles] [] fun t => t.pc = s.idx x ∧ t.cycles = 8) ∧
  (∀ (e : Byte) (s : State), encode (.djnz_e e) = [0x10, e] ∧
    Completes (.djnz_e e) s [.b, .pc, .wz, .cycles] [] fun t =>
      t.reg8 .b = s.reg8 .b - 1 ∧
        if s.reg8 .b - 1 ≠ 0 then t.pc = relTarget e s ∧ t.wz = relTarget e s ∧ t.cycles = 13
        else t.pc = s.pc ∧ t.wz = s.wz ∧ t.cycles = 8)

/-- R428, R429, R434: calls and restarts push the address after the instruction. -/
def Obligations.CallsAndRestarts : Prop :=
  ∀ s : State, StateWf s = true →
  (∀ nn : Word, encode (.call_nn nn) = [0xCD, lo nn, hi nn] ∧
    Completes (.call_nn nn) s [.memory, .sp, .pc, .wz, .cycles]
      [(s.sp - 2, lo s.pc), (s.sp - 1, hi s.pc)] fun t =>
        t.pc = nn ∧ t.wz = nn ∧ t.sp = s.sp - 2 ∧ t.cycles = 17) ∧
  (∀ (cc : Cond) (nn : Word),
    encode (Instr.callCond cc nn) = [opcode 3 (condCode cc) 4, lo nn, hi nn] ∧
    (condition cc s.f = true → Completes (Instr.callCond cc nn) s [.memory, .sp, .pc, .wz, .cycles]
      [(s.sp - 2, lo s.pc), (s.sp - 1, hi s.pc)] fun t =>
        t.pc = nn ∧ t.wz = nn ∧ t.sp = s.sp - 2 ∧ t.cycles = 17) ∧
    (condition cc s.f = false → Completes (Instr.callCond cc nn) s [.wz, .cycles] [] fun t =>
      t.wz = nn ∧ t.cycles = 10)) ∧
  (∀ p : Field3, encode (Instr.rst p) = [opcode 3 p.value 7] ∧
    Completes (Instr.rst p) s [.memory, .sp, .pc, .wz, .cycles]
      [(s.sp - 2, lo s.pc), (s.sp - 1, hi s.pc)] fun t =>
        t.pc = BitVec.ofNat 16 (8 * p.value) ∧ t.wz = t.pc ∧ t.sp = s.sp - 2 ∧ t.cycles = 11)

/-- R430, R431: the returns from a subroutine. -/
def Obligations.Returns : Prop :=
  (∀ s : State, encode .ret = [0xC9] ∧
    Completes .ret s [.sp, .pc, .wz, .cycles] [] fun t =>
      t.pc = pair (s.read8 (s.sp + 1)) (s.read8 s.sp) ∧ t.wz = t.pc ∧ t.sp = s.sp + 2 ∧
        t.cycles = 10) ∧
  (∀ (cc : Cond) (s : State), encode (Instr.retCond cc) = [opcode 3 (condCode cc) 0] ∧
    Completes (Instr.retCond cc) s [.sp, .pc, .wz, .cycles] [] fun t =>
      if condition cc s.f then
        t.pc = pair (s.read8 (s.sp + 1)) (s.read8 s.sp) ∧ t.wz = t.pc ∧ t.sp = s.sp + 2 ∧
          t.cycles = 11
      else t.pc = s.pc ∧ t.wz = s.wz ∧ t.sp = s.sp ∧ t.cycles = 5)

/-- R432, R433: RETI returns, copies IFF2 into IFF1 and notifies the chain (the chain's own change is
stated by ChainRules); RETN does the first two and leaves the chain (decision D26). -/
def Obligations.ReturnFromInterrupt : Prop :=
  encode .reti = [0xED, 0x4D] ∧ encode .retn = [0xED, 0x45] ∧
  (∀ s : State, Completes .retn s [.sp, .pc, .wz, .iff1, .cycles] [] fun t =>
    t.pc = pair (s.read8 (s.sp + 1)) (s.read8 s.sp) ∧ t.wz = t.pc ∧ t.sp = s.sp + 2 ∧
      t.iff1 = s.iff2 ∧ t.cycles = 14) ∧
  (∀ s : State, Completes .reti s [.sp, .pc, .wz, .iff1, .chain, .intPending, .cycles] [] fun t =>
    t.pc = pair (s.read8 (s.sp + 1)) (s.read8 s.sp) ∧ t.wz = t.pc ∧ t.sp = s.sp + 2 ∧
      t.iff1 = s.iff2 ∧ t.bus.chain = s.bus.chainReti.chain ∧
      t.bus.intPending = s.bus.chainReti.intPending ∧ t.cycles = 14)

/-! ## Input and output (49_io.md) -/

/-- R102, R450, R451, R456, R457: IN and OUT; the frame is against the state after the port access,
whose own effect is stated by PortAccess. The byte read is a draw of the model (log entries 2 and 11). -/
def Obligations.PortInstructions : Prop :=
  (∀ (n : Byte) (s : State), encode (.in_A_pn n) = [0xDB, n] ∧
    CompletesFrom (.in_A_pn n) s (s.ioRead (pair s.a n)) [.a, .wz, .cycles] [] fun t =>
      t.a = s.ioReadValue ∧ t.wz = pair s.a n + 1 ∧ t.cycles = 11) ∧
  (∀ (r : Reg8) (s : State), encode (Instr.inReg r) = [0xED, opcode 1 (regCode r) 0] ∧
    CompletesFrom (Instr.inReg r) s (s.ioRead s.bc) [partOf r, .f, .wz, .cycles] [] fun t =>
      t.reg8 r = s.ioReadValue ∧ t.f = Spec.szxyp s.ioReadValue ||| (s.f &&& 0x01) ∧
        t.wz = s.bc + 1 ∧ t.cycles = 12) ∧
  (∀ (n : Byte) (s : State), encode (.out_pn_A n) = [0xD3, n] ∧
    CompletesFrom (.out_pn_A n) s (s.ioWrite (pair s.a n) s.a) [.wz, .cycles] [] fun t =>
      t.wz = pair s.a (n + 1) ∧ t.cycles = 11) ∧
  (∀ (r : Reg8) (s : State), encode (Instr.outReg r) = [0xED, opcode 1 (regCode r) 1] ∧
    CompletesFrom (Instr.outReg r) s (s.ioWrite s.bc (s.reg8 r)) [.wz, .cycles] [] fun t =>
      t.wz = s.bc + 1 ∧ t.cycles = 12)

/-- R452, R454: one unit of a block input: the port is BC before B is decremented; the byte, a draw of
the model (log entries 2 and 11), is stored through the page map the handler leaves. -/
def Obligations.BlockInput : Prop :=
  encode .ini = [0xED, 0xA2] ∧ encode .ind = [0xED, 0xAA] ∧
  ∀ s : State, StateWf s = true →
  (CompletesFrom .ini s (s.ioRead s.bc) [.memory, .b, .h, .l, .f, .wz, .cycles]
    [(s.hl, s.ioReadValue)] fun t =>
      t.reg8 .b = s.reg8 .b - 1 ∧ t.hl = s.hl + 1 ∧ t.wz = s.bc + 1 ∧
        t.f = portFlags s.ioReadValue (s.reg8 .b - 1)
          (s.ioReadValue.toNat + (s.reg8 .c + 1).toNat) ∧ t.cycles = 16) ∧
  (CompletesFrom .ind s (s.ioRead s.bc) [.memory, .b, .h, .l, .f, .wz, .cycles]
    [(s.hl, s.ioReadValue)] fun t =>
      t.reg8 .b = s.reg8 .b - 1 ∧ t.hl = s.hl - 1 ∧ t.wz = s.bc - 1 ∧
        t.f = portFlags s.ioReadValue (s.reg8 .b - 1)
          (s.ioReadValue.toNat + (s.reg8 .c - 1).toNat) ∧ t.cycles = 16)

/-- R458, R460: one unit of a block output: the port is BC after B is decremented. -/
def Obligations.BlockOutput : Prop :=
  encode .outi = [0xED, 0xA3] ∧ encode .outd = [0xED, 0xAB] ∧
  (∀ s : State,
    let port : Word := pair (s.reg8 .b - 1) (s.reg8 .c)
    let v : Byte := s.read8 s.hl
    CompletesFrom .outi s (s.ioWrite port v) [.b, .h, .l, .f, .wz, .cycles] [] fun t =>
      t.reg8 .b = s.reg8 .b - 1 ∧ t.hl = s.hl + 1 ∧ t.wz = port + 1 ∧
        t.f = portFlags v (s.reg8 .b - 1) (v.toNat + (lo (s.hl + 1)).toNat) ∧ t.cycles = 16) ∧
  (∀ s : State,
    let port : Word := pair (s.reg8 .b - 1) (s.reg8 .c)
    let v : Byte := s.read8 s.hl
    CompletesFrom .outd s (s.ioWrite port v) [.b, .h, .l, .f, .wz, .cycles] [] fun t =>
      t.reg8 .b = s.reg8 .b - 1 ∧ t.hl = s.hl - 1 ∧ t.wz = port - 1 ∧
        t.f = portFlags v (s.reg8 .b - 1) (v.toNat + (lo (s.hl - 1)).toNat) ∧ t.cycles = 16)

/-- R453, R455, R459, R461: a repeating block I/O form is its unit, and while B is not 0 it goes back to
its own first byte with 21 cycles; WZ is not re-targeted. -/
def Obligations.BlockPortRepeat : Prop :=
  encode .inir = [0xED, 0xB2] ∧ encode .indr = [0xED, 0xBA] ∧ encode .otir = [0xED, 0xB3] ∧
  encode .otdr = [0xED, 0xBB] ∧
  (∀ s : State, ∃ u : State, exec .ini s = .next u ∧ exec .inir s = .next
    (if u.reg8 .b ≠ 0 then { u with pc := s.pc - 2, cycles := 21 } else u)) ∧
  (∀ s : State, ∃ u : State, exec .ind s = .next u ∧ exec .indr s = .next
    (if u.reg8 .b ≠ 0 then { u with pc := s.pc - 2, cycles := 21 } else u)) ∧
  (∀ s : State, ∃ u : State, exec .outi s = .next u ∧ exec .otir s = .next
    (if u.reg8 .b ≠ 0 then { u with pc := s.pc - 2, cycles := 21 } else u)) ∧
  (∀ s : State, ∃ u : State, exec .outd s = .next u ∧ exec .otdr s = .next
    (if u.reg8 .b ≠ 0 then { u with pc := s.pc - 2, cycles := 21 } else u))

/-- R86, R100, R101: what a port access is. It is recorded, the handler's actions are done in order, a
script's answer is used up, and nothing else changes; with no script the byte is the free value of this
access, whatever it is (log entries 2, 3 and 11: the model's form of the draw). -/
def Obligations.PortAccess : Prop :=
  (∀ (port : Word) (s : State),
    (s.ioRead port).ioLog = .read port s.ioReadValue :: s.ioLog ∧
    SameExcept [.io, .map, .chain, .intPending] s (s.ioRead port)) ∧
  (∀ (port : Word) (v : Byte) (s : State),
    (s.ioWrite port v).ioLog = .write port v :: s.ioLog ∧
    SameExcept [.io, .map, .chain, .intPending] s (s.ioWrite port v)) ∧
  (∀ (ev : IoEvent) (rep : HandlerReply) (rest : List HandlerReply) (s : State),
    s.ioScript = rep :: rest →
    s.ioReadValue = rep.value ∧ (s.ioAccess ev).ioScript = rest ∧
      (s.ioAccess ev).bus = rep.actions.foldl Bus.handle s.bus) ∧
  (∀ (ev : IoEvent) (s : State), s.ioScript = [] →
    s.ioReadValue = Config.portRead s.ioCount ∧
      (s.ioAccess ev).bus = (Config.handlerActions s.ioCount).foldl Bus.handle s.bus ∧
      (s.ioAccess ev).ioCount = s.ioCount + 1)

/-! ## Memory (20_memory.md) and registers (10_state.md) -/

/-- R81, R83, R84: a read and a write through the page map. The page size and the fill byte are the
spec's decisions D1 and D2 (log entry 8). -/
def Obligations.MemoryAccess : Prop :=
  ∀ (s : State) (a : Word),
  (s.bus.pageSource (a >>> 10).toNat = .unmapped →
    s.read8 a = 0xFF ∧ ∀ v : Byte, s.write8 a v = s) ∧
  (∀ (n base : Nat) (readonly : Bool),
    s.bus.pageSource (a >>> 10).toNat = .mapped n base readonly →
    s.read8 a = storesRead s.bus.stores n (base + (a &&& 0x3FF).toNat) ∧
    (readonly = true → ∀ v : Byte, s.write8 a v = s) ∧
    (readonly = false → StateWf s = true → ∀ v : Byte,
      (s.write8 a v).read8 a = v ∧ Stores [(a, v)] s (s.write8 a v) ∧
      SameExcept [.memory] s (s.write8 a v)))

/-- R90, R91, R95, R96: words in memory and the stack, wrapping at 0xFFFF; the order of a word's two
writes is the spec's decision D4. -/
def Obligations.WordsAndStack : Prop :=
  (∀ (s : State) (a : Word), s.read16 a = pair (s.read8 (a + 1)) (s.read8 a)) ∧
  (∀ s : State, s.popValue = pair (s.read8 (s.sp + 1)) (s.read8 s.sp) ∧ s.popState.sp = s.sp + 2 ∧
    SameExcept [.sp] s s.popState) ∧
  (∀ (s : State) (a v : Word), StateWf s = true →
    Stores [(a + 1, hi v), (a, lo v)] s (s.write16 a v) ∧ SameExcept [.memory] s (s.write16 a v)) ∧
  (∀ (s : State) (v : Word), StateWf s = true →
    Stores [(s.sp - 2, lo v), (s.sp - 1, hi v)] s (s.push16 v) ∧ (s.push16 v).sp = s.sp - 2 ∧
      SameExcept [.memory, .sp] s (s.push16 v))

/-- R85: remap repoints the pages of its range and nothing else, and is refused where a precondition is
broken (decision D7). -/
def Obligations.Remap : Prop :=
  ∀ (s : State) (first count : Nat) (source : PageSource), StateWf s = true → s.power = .on →
  ((first + count ≤ 64 ∧ ∀ (n base : Nat) (readonly : Bool), source = .mapped n base readonly →
      ∃ st : Store, s.bus.stores[n]? = some st ∧ base + count * 1024 ≤ st.size) →
    ∃ t : State, remap first count source s = .ok t ∧ SameExcept [.map] s t ∧
      ∀ p : Nat, t.bus.pageSource p =
        if first ≤ p ∧ p < first + count then
          (match source with
            | .unmapped => .unmapped
            | .mapped n base readonly => .mapped n (base + (p - first) * 1024) readonly)
        else s.bus.pageSource p) ∧
  (¬(first + count ≤ 64 ∧ ∀ (n base : Nat) (readonly : Bool), source = .mapped n base readonly →
      ∃ st : Store, s.bus.stores[n]? = some st ∧ base + count * 1024 ≤ st.size) →
    remap first count source s = .error .badRemap)

/-- 20_memory.md §1, for the model's own form of a store (log entry 5): cells in canonical form that read
alike at every index are the same list, so equal memories are equal data. -/
def Obligations.CanonicalMemory : Prop :=
  ∀ (bound : Nat) (cs ds : List Host.Cell), cellsWf bound 0 cs = true → cellsWf bound 0 ds = true →
    (∀ k : Nat, cellsRead cs k = cellsRead ds k) → cs = ds

/-- R31, R59: a pair and its halves are the same storage, and a register written through the accessor
(decision D31; the values it takes: log entry 19) reads as the value written. -/
def Obligations.RegisterAliasing : Prop :=
  (∀ (s : State) (v : Byte),
    (s.setReg8 .b v).bc = pair v (s.reg8 .c) ∧ (s.setReg8 .c v).bc = pair (s.reg8 .b) v ∧
    (s.setReg8 .d v).de = pair v (s.reg8 .e) ∧ (s.setReg8 .e v).de = pair (s.reg8 .d) v ∧
    (s.setReg8 .h v).hl = pair v (s.reg8 .l) ∧ (s.setReg8 .l v).hl = pair (s.reg8 .h) v ∧
    (s.setReg8 .a v).af = pair v s.f ∧
    ∀ x : Idx, (s.setHalf x .high v).idx x = pair v (s.half x .low) ∧
      (s.setHalf x .low v).idx x = pair (s.half x .high) v) ∧
  (∀ (s : State) (v : Word),
    pair ((s.setPairSS .bc v).reg8 .b) ((s.setPairSS .bc v).reg8 .c) = v ∧
    pair ((s.setPairSS .de v).reg8 .d) ((s.setPairSS .de v).reg8 .e) = v ∧
    pair ((s.setPairSS .hl v).reg8 .h) ((s.setPairSS .hl v).reg8 .l) = v ∧
    pair (s.setPairQQ .af v).a (s.setPairQQ .af v).f = v ∧
    ∀ x : Idx, pair ((s.setIdx x v).half x .high) ((s.setIdx x v).half x .low) = v) ∧
  (∀ (s : State) (id : RegId) (v : Word), regFits id v = true → regValue id (regSet id v s) = v)

/-! ## Interrupts (60_exceptions.md) -/

/-- R503: the acknowledge traversal answers the vector of the first requesting node with no node at or
above it under service, and that node goes under service. -/
def Obligations.ChainAcknowledge : Prop :=
  ∀ (chain after : List Node) (v : Byte),
    chainAck chain = some (v, after) ↔
      ∃ (k : Nat) (n : Node), chain[k]? = some n ∧ n.req = true ∧ n.ius = false ∧
        (∀ (j : Nat) (m : Node), j < k → chain[j]? = some m → m.req = false ∧ m.ius = false) ∧
        v = n.vec ∧ after = chain.set k { n with req := false, ius := true }

/-- R501, R502, R504, R505, R506: request, decline and the notification of RETI (decisions D28 and
D32). -/
def Obligations.ChainRules : Prop :=
  (∀ (s : State) (k : Nat), s.power = .on →
    (∀ n : Node, s.bus.chain[k]? = some n →
      ∃ t : State, chainRequest k s = .ok t ∧ t.bus.chain = s.bus.chain.set k { n with req := true } ∧
        (t.bus.intPending = true ↔ s.bus.intPending = true ∨ iei s.bus.chain k) ∧
        SameExcept [.chain, .intPending] s t) ∧
    (s.bus.chain[k]? = none → chainRequest k s = .error .noSuchNode)) ∧
  (∀ (chain : List Node) (k : Nat) (n : Node), chain[k]? = some n →
    (iei chain k → (chainDecline chain)[k]? = some { n with req := false }) ∧
    (¬iei chain k → (chainDecline chain)[k]? = some n)) ∧
  (∀ b : Bus, b.chainReti.stores = b.stores ∧ b.chainReti.map = b.map ∧
    (b.chainReti.intPending = true ↔ b.intPending = true ∨
      ∃ (k : Nat) (n : Node), b.chainReti.chain[k]? = some n ∧ n.req = true ∧
        iei b.chainReti.chain k) ∧
    ((∀ n ∈ b.chain, n.ius = false) → b.chainReti.chain = b.chain) ∧
    (∀ (k : Nat) (n : Node), b.chain[k]? = some n → n.ius = true → iei b.chain k →
      b.chainReti.chain = b.chain.set k { n with ius := false }))

/-- R510, R511, R512, R531: the instruction boundary, case by case in the order of the rule (decisions
D21 to D24 and D27; both settings of P_IM2_DISPATCH, log entry 9). -/
def Obligations.InstructionBoundary : Prop :=
  ∀ (start : Word) (s : State),
  (s.eiShadow = true → boundary start s = .next { s with eiShadow := false }) ∧
  (s.eiShadow = false → s.bus.intPending = false → boundary start s = .next s) ∧
  (s.eiShadow = false → s.bus.intPending = true → (s.iff1 && s.iff2) = false →
    boundary start s = .next
      { s with bus := { s.bus with intPending := false, chain := chainDecline s.bus.chain } }) ∧
  (s.eiShadow = false → s.bus.intPending = true → (s.iff1 && s.iff2) = true →
    (s.im ≠ .im2 → boundary start s = .fault (.unsupportedInterruptMode start)) ∧
    (s.im = .im2 → chainAck s.bus.chain = none →
      boundary start s = .next { s with bus := { s.bus with intPending := false } }) ∧
    (∀ (v : Byte) (after : List Node), s.im = .im2 → chainAck s.bus.chain = some (v, after) →
      StateWf s = true → ∃ t : State, boundary start s = .next t ∧
        t.iff1 = false ∧ t.iff2 = false ∧ t.halted = false ∧ t.r = incR s.r ∧
        t.sp = s.sp - 2 ∧ t.bus.chain = after ∧ t.bus.intPending = false ∧ t.wz = t.pc ∧
        t.cycles = s.cycles + 19 ∧
        (s.params.im2Dispatch = .direct → t.pc = pair s.i (v &&& 0xFE)) ∧
        (s.params.im2Dispatch = .table → t.pc =
          pair (t.read8 (pair s.i (v &&& 0xFE) + 1)) (t.read8 (pair s.i (v &&& 0xFE)))) ∧
        Stores [(s.sp - 2, lo s.pc), (s.sp - 1, hi s.pc)] s t ∧
        SameExcept [.memory, .iff1, .iff2, .halted, .r, .sp, .pc, .wz, .chain, .intPending, .cycles]
          s t))

/-- R520 (decisions D11 and D16): an invalid opcode sets INV, keeps pc, counts both M1 fetches, costs 4
cycles, leaves the rest (the step's history entry stays), and the boundary check follows. -/
def Obligations.InvalidOpcode : Prop :=
  ∀ s : State, ready s → s.halted = false →
    knownPattern (s.read8 s.pc) (s.read8 (s.pc + 1)) = false →
    step s = boundary s.pc
      { s with
        inv := true
        r := incR (incR s.r)
        cycles := 4
        hist := s.hist.set s.hidx s.pc
        hidx := (s.hidx + 1) % s.hist.length }

/-- R540: a halted step reads nothing and runs nothing: R counts, 4 cycles, no history entry, and the
boundary check follows. The pc that a fault of that check would record is the unchanged pc, the model's
choice (log entry 26). -/
def Obligations.HaltedIdle : Prop :=
  ∀ s : State, ready s → s.halted = true →
    step s = boundary s.pc { s with inv := false, r := incR s.r, cycles := 4 }

/-- R550, R551 (decision D30): the PC history, the most recent first, its index taken modulo the depth. -/
def Obligations.History : Prop :=
  (∀ s : State, (histWrite s).hist = s.hist.set s.hidx s.pc ∧
    (histWrite s).hidx = (s.hidx + 1) % s.hist.length ∧ SameExcept [.hist] s (histWrite s)) ∧
  (∀ s : State, historyWf s = true → s.power = .on →
    pcHistory 0 (histWrite s) = .ok s.pc ∧
    (∀ i : Nat, i + 1 < s.hist.length → pcHistory (i + 1) (histWrite s) = pcHistory i s) ∧
    (∀ i : Nat, pcHistory (i + s.hist.length) s = pcHistory i s))

/-- R60, R600 (decisions D40 and D42): reset, for every draw. That it ends a recorded fault is V70.2. -/
def Obligations.Reset : Prop :=
  ∀ (draw : ResetDraw) (s : State),
  (s.power = .off → resetCall draw s = .error .poweredOff) ∧
  (s.power = .on → ∃ t : State, resetCall draw s = .ok t ∧
    t.pc = 0x0000 ∧ t.i = 0x00 ∧ t.r = 0x00 ∧ t.im = .im0 ∧ t.iff1 = false ∧ t.iff2 = false ∧
    t.halted = false ∧ t.inv = false ∧ t.eiShadow = false ∧ t.bus.intPending = false ∧
    t.bus.chain = s.bus.chain.map (fun n => { n with req := false, ius := false }) ∧
    t.af = draw.af ∧ t.bc = draw.bc ∧ t.de = draw.de ∧ t.hl = draw.hl ∧ t.wz = draw.wz ∧
    t.af' = draw.af' ∧ t.bc' = draw.bc' ∧ t.de' = draw.de' ∧ t.hl' = draw.hl' ∧
    t.wz' = draw.wz' ∧ t.ix = draw.ix ∧ t.iy = draw.iy ∧ t.sp = draw.sp ∧
    t.faulted = none ∧ t.power = .on ∧ t.bus.stores = s.bus.stores ∧ t.bus.map = s.bus.map ∧
    t.hist = s.hist ∧ t.hidx = s.hidx)

/-! ## Fetch, decode, step (30_encoding.md) -/

/-- R38, R122, R123, R125: what a fetch leaves, and the assembly of displacements. -/
def Obligations.FetchAndOperands : Prop :=
  (∀ r : Byte, incR r = BitVec.ofNat 8 (128 * (r.toNat / 128) + (r.toNat % 128 + 1) % 128)) ∧
  (∀ (s u : State) (i : Instr), fetch s = .ok (i, u) →
    u.pc = s.pc + BitVec.ofNat 16 (encode i).length ∧
    u.r = (if s.read8 s.pc = 0xCB ∨ s.read8 s.pc = 0xDD ∨ s.read8 s.pc = 0xED ∨ s.read8 s.pc = 0xFD
      then incR (incR s.r) else incR s.r) ∧
    SameExcept [.pc, .r] s u ∧
    ∀ (k : Nat) (v : Byte), (encode i)[k]? = some v → s.read8 (s.pc + BitVec.ofNat 16 k) = v) ∧
  (∀ (x : Idx) (d : Byte) (s : State),
    effAddr x d s = BitVec.ofInt 16 ((s.idx x).toNat + d.toInt)) ∧
  (∀ (e : Byte) (s : State), relTarget e s = BitVec.ofInt 16 (s.pc.toNat + e.toInt))

/-- R140 (four bytes read at once: log entry 21): when the bytes at pc decode, the step of a machine that
can step and is not halted writes the history, runs exec of that instruction on the state after the
fetch, and checks the boundary. -/
def Obligations.StepRunsDecoded : Prop :=
  ∀ (s : State) (i : Instr) (rest : List Byte), ready s → s.halted = false →
    decode [s.read8 s.pc, s.read8 (s.pc + 1), s.read8 (s.pc + 2), s.read8 (s.pc + 3)]
      = .ok (i, rest) →
    step s =
      match exec i (afterFetch (4 - rest.length) (histWrite { s with inv := false })) with
      | .next t => boundary s.pc t
      | .fault f => .fault f
      | .refused r => .refused r

/-- A few words written out from the encodings of 30_encoding.md and the instruction rules. -/
def Obligations.DecodeWords : Prop :=
  decode [0x00] = .ok (.nop, []) ∧
  decode [0x78] = .ok (.ld_A_B, []) ∧
  decode [0x3A, 0x34, 0x12] = .ok (.ld_A_mnn 0x1234, []) ∧
  decode [0xDD, 0x36, 0x80, 0x11] = .ok (.ld_mIXd_n 0x80 0x11, []) ∧
  decode [0xED, 0x4B, 0x00, 0x20] = .ok (.ld_BC_mnn 0x2000, []) ∧
  decode [0xED, 0xB0] = .ok (.ldir, []) ∧
  decode [0xDD, 0x86, 0x01] = .ok (.add_A_mIXd 0x01, []) ∧
  decode [0xED, 0x5E] = .ok (.im_2, []) ∧
  decode [0xFD, 0x39] = .ok (.add_IY_SP, []) ∧
  decode [0xDD, 0xCB, 0x00, 0x34] = .ok (.sll_mIXd_H 0x00, []) ∧
  decode [0xCB, 0x7E] = .ok (.bit_7_mHL, []) ∧
  decode [0x20, 0x05] = .ok (.jr_NZ_e 0x05, []) ∧
  decode [0xDB, 0xFE] = .ok (.in_A_pn 0xFE, [])

/-- R120 to R130: decoding what the encoder writes gives the instruction back, whatever follows it: no
bit of an encoding is dropped. -/
def Obligations.DecodeEncode : Prop :=
  ∀ (i : Instr) (rest : List Byte), decode (encode i ++ rest) = .ok (i, rest)

/-- R129, R130, R132, R133 (decision D10): the decoder accepts exactly the byte sequences that begin with
a whole valid instruction, and what it accepts is that instruction's encoding. -/
def Obligations.DecodeExact : Prop :=
  (∀ bytes : List Byte,
    (∃ (i : Instr) (rest : List Byte), decode bytes = .ok (i, rest)) ↔ wellFormedBytes bytes = true) ∧
  (∀ (bytes rest : List Byte) (i : Instr), decode bytes = .ok (i, rest) → bytes = encode i ++ rest)

/-! ## The whole machine -/

/-- Every step keeps the state well formed: memory in its canonical form, the page map total and inside
its stores, the history a ring. -/
def Obligations.StepKeepsWellFormed : Prop :=
  ∀ s t : State, StateWf s = true → step s = .next t → StateWf t = true

/-- The state after reset is well formed, and so is what reset makes of any well-formed state. -/
def Obligations.ResetWellFormed : Prop :=
  StateWf State.reset = true ∧
  ∀ (draw : ResetDraw) (s : State), StateWf s = true → StateWf (s.resetWith draw) = true

/-- R339, R340, R521, R560: every instruction completes in every state, but for IM 0 and IM 1, which
fault in every state; none is refused. -/
def Obligations.EveryInstructionCompletes : Prop :=
  ∀ (i : Instr) (s : State),
    ((∃ t : State, exec i s = .next t) ↔ ¬(i = .im_0 ∨ i = .im_1)) ∧
    ∀ r : Refusal, exec i s ≠ .refused r

/-- R32, R37, R38, R50, R51: in every step, R[7] changes only by LD R,A and I only by LD I,A; AF' changes
only by EX AF,AF' and BC', DE', HL', WZ' only by EXX; IM changes only to 2, by IM 2; IFF2 is set only by
EI, and IFF1 only by EI, or by RETI or RETN from IFF2. -/
def Obligations.OnlyWriters : Prop :=
  ∀ (s t : State), step s = .next t →
    let runs := fun i : Instr =>
      s.halted = false ∧ ∃ rest : List Byte,
        decode [s.read8 s.pc, s.read8 (s.pc + 1), s.read8 (s.pc + 2), s.read8 (s.pc + 3)]
          = .ok (i, rest)
    (t.r.getLsbD 7 ≠ s.r.getLsbD 7 → runs .ld_R_A) ∧
    (t.i ≠ s.i → runs .ld_I_A) ∧
    (t.af' ≠ s.af' → runs .ex_AF_AF) ∧
    ((t.bc' ≠ s.bc' ∨ t.de' ≠ s.de' ∨ t.hl' ≠ s.hl' ∨ t.wz' ≠ s.wz') → runs .exx) ∧
    (t.im ≠ s.im → runs .im_2 ∧ t.im = .im2) ∧
    (t.iff2 = true → s.iff2 = true ∨ runs .ei) ∧
    (t.iff1 = true → s.iff1 = true ∨ runs .ei ∨ (s.iff2 = true ∧ (runs .reti ∨ runs .retn)))
end

