-- ==== Sys2Proof/Laws/Bits.lean ====
section
/-! SUPPORT. The halves of a pair and the flag byte: each read after each write. -/

namespace Sys2Proof.Machine

theorem hi_toNat (w : Word) : (hi w).toNat = w.toNat / 256 := by
  have := w.isLt
  simp [hi, BitVec.extractLsb'_toNat, Nat.shiftRight_eq_div_pow]
  omega

theorem lo_toNat (w : Word) : (lo w).toNat = w.toNat % 256 := by
  simp [lo, BitVec.extractLsb'_toNat]

theorem pair_toNat (h l : Byte) : (pair h l).toNat = h.toNat * 256 + l.toNat := by
  have e : (pair h l).toNat = h.toNat <<< 8 ||| l.toNat := BitVec.toNat_append h l
  rw [e, ← Nat.shiftLeft_add_eq_or_of_lt l.isLt, Nat.shiftLeft_eq]

@[simp] theorem hi_pair (h l : Byte) : hi (pair h l) = h := by
  apply BitVec.eq_of_toNat_eq
  rw [hi_toNat, pair_toNat]
  have := l.isLt
  omega

@[simp] theorem lo_pair (h l : Byte) : lo (pair h l) = l := by
  apply BitVec.eq_of_toNat_eq
  rw [lo_toNat, pair_toNat]
  have := l.isLt
  omega

@[simp] theorem pair_hi_lo (w : Word) : pair (hi w) (lo w) = w := by
  apply BitVec.eq_of_toNat_eq
  rw [pair_toNat, hi_toNat, lo_toNat]
  omega

@[simp] theorem hi_withHi (w : Word) (v : Byte) : hi (withHi w v) = v := by simp [withHi]

@[simp] theorem lo_withHi (w : Word) (v : Byte) : lo (withHi w v) = lo w := by simp [withHi]

@[simp] theorem hi_withLo (w : Word) (v : Byte) : hi (withLo w v) = hi w := by simp [withLo]

@[simp] theorem lo_withLo (w : Word) (v : Byte) : lo (withLo w v) = v := by simp [withLo]

/-- Two words are equal when their halves are. -/
theorem word_ext {v w : Word} (h : hi v = hi w) (l : lo v = lo w) : v = w := by
  rw [← pair_hi_lo v, ← pair_hi_lo w, h, l]

@[simp] theorem ofByte_toByte (f : Flags) : Flags.ofByte f.toByte = f := by
  obtain ⟨s, z, y, h, x, pv, n, c⟩ := f
  cases s <;> cases z <;> cases y <;> cases h <;> cases x <;> cases pv <;> cases n <;> cases c <;> rfl

/-- A property of every byte is one of 256 checks. -/
theorem byte_forall {p : Byte → Prop} (h : ∀ n < 256, p (BitVec.ofNat 8 n)) (v : Byte) : p v := by
  have e : BitVec.ofNat 8 v.toNat = v := by simp
  exact e ▸ h v.toNat v.isLt

@[simp] theorem toByte_ofByte (v : Byte) : (Flags.ofByte v).toByte = v :=
  byte_forall (p := fun v => (Flags.ofByte v).toByte = v) (by decide +kernel) v

end Sys2Proof.Machine
end

