-- ==== Sys2Proof/Laws/Exec.lean ====
section
/-! SUPPORT. What exec answers for each group of instructions: the group's shared operation, applied to
the operands. Cite these instead of unfolding exec, which has one arm for each of 1,248 constructors. -/

namespace Sys2Proof.Machine

theorem exec_ldRegImm (r : Reg8) (n : Byte) (s : State) :
    exec (Instr.ldRegImm r n) s = .next (ldRegImm r n s) := by
  cases r <;> rfl

theorem exec_ldRegReg (dst : Reg8) (r : Reg8) (s : State) :
    exec (Instr.ldRegReg dst r) s = .next (ldRegReg dst r s) := by
  cases dst <;> cases r <;> rfl

theorem exec_ldRegMem (r : Reg8) (s : State) :
    exec (Instr.ldRegMem r) s = .next (ldRegMem r s) := by
  cases r <;> rfl

theorem exec_ldMemReg (r : Reg8) (s : State) :
    exec (Instr.ldMemReg r) s = .next (ldMemReg r s) := by
  cases r <;> rfl

theorem exec_ldHalfImm (x : Idx) (k : Half) (n : Byte) (s : State) :
    exec (Instr.ldHalfImm x k n) s = .next (ldHalfImm x k n s) := by
  cases x <;> cases k <;> rfl

theorem exec_ldIdxImm (x : Idx) (d : Byte) (n : Byte) (s : State) :
    exec (Instr.ldIdxImm x d n) s = .next (ldIdxImm x d n s) := by
  cases x <;> rfl

theorem exec_ldRegHalf (r : PlainReg) (x : Idx) (k : Half) (s : State) :
    exec (Instr.ldRegHalf r x k) s = .next (ldRegHalf r x k s) := by
  cases r <;> cases x <;> cases k <;> rfl

theorem exec_ldRegIdx (r : Reg8) (x : Idx) (d : Byte) (s : State) :
    exec (Instr.ldRegIdx r x d) s = .next (ldRegIdx r x d s) := by
  cases r <;> cases x <;> rfl

theorem exec_ldHalfReg (x : Idx) (k : Half) (r : PlainReg) (s : State) :
    exec (Instr.ldHalfReg x k r) s = .next (ldHalfReg x k r s) := by
  cases x <;> cases k <;> cases r <;> rfl

theorem exec_ldHalfHalf (x : Idx) (k : Half) (k' : Half) (s : State) :
    exec (Instr.ldHalfHalf x k k') s = .next (ldHalfHalf x k k' s) := by
  cases x <;> cases k <;> cases k' <;> rfl

theorem exec_ldIdxReg (x : Idx) (r : Reg8) (d : Byte) (s : State) :
    exec (Instr.ldIdxReg x r d) s = .next (ldIdxReg x r d s) := by
  cases x <;> cases r <;> rfl

theorem exec_ldPairImm (p : PairSS) (nn : Word) (s : State) :
    exec (Instr.ldPairImm p nn) s = .next (ldPairImm p nn s) := by
  cases p <;> rfl

theorem exec_popPair (p : PairQQ) (s : State) :
    exec (Instr.popPair p) s = .next (popPair p s) := by
  cases p <;> rfl

theorem exec_pushPair (p : PairQQ) (s : State) :
    exec (Instr.pushPair p) s = .next (pushPair p s) := by
  cases p <;> rfl

theorem exec_ldMemPair (p : PairSS) (nn : Word) (s : State) :
    exec (Instr.ldMemPair p nn) s = .next (ldMemPair p nn s) := by
  cases p <;> rfl

theorem exec_ldPairMem (p : PairSS) (nn : Word) (s : State) :
    exec (Instr.ldPairMem p nn) s = .next (ldPairMem p nn s) := by
  cases p <;> rfl

theorem exec_ldIdxImm16 (x : Idx) (nn : Word) (s : State) :
    exec (Instr.ldIdxImm16 x nn) s = .next (ldIdxImm16 x nn s) := by
  cases x <;> rfl

theorem exec_ldMemIdx (x : Idx) (nn : Word) (s : State) :
    exec (Instr.ldMemIdx x nn) s = .next (ldMemIdx x nn s) := by
  cases x <;> rfl

theorem exec_ldIdxMem (x : Idx) (nn : Word) (s : State) :
    exec (Instr.ldIdxMem x nn) s = .next (ldIdxMem x nn s) := by
  cases x <;> rfl

theorem exec_popIdx (x : Idx) (s : State) :
    exec (Instr.popIdx x) s = .next (popIdx x s) := by
  cases x <;> rfl

theorem exec_pushIdx (x : Idx) (s : State) :
    exec (Instr.pushIdx x) s = .next (pushIdx x s) := by
  cases x <;> rfl

theorem exec_ldSpIdx (x : Idx) (s : State) :
    exec (Instr.ldSpIdx x) s = .next (ldSpIdx x s) := by
  cases x <;> rfl

theorem exec_exSpIdx (x : Idx) (s : State) :
    exec (Instr.exSpIdx x) s = .next (exSpIdx x s) := by
  cases x <;> rfl

theorem exec_incReg (r : Reg8) (s : State) :
    exec (Instr.incReg r) s = .next (incReg r s) := by
  cases r <;> rfl

theorem exec_decReg (r : Reg8) (s : State) :
    exec (Instr.decReg r) s = .next (decReg r s) := by
  cases r <;> rfl

theorem exec_aluReg (op : AluOp) (r : Reg8) (s : State) :
    exec (Instr.aluReg op r) s = .next (aluReg op r s) := by
  cases op <;> cases r <;> rfl

theorem exec_aluMem (op : AluOp) (s : State) :
    exec (Instr.aluMem op) s = .next (aluMem op s) := by
  cases op <;> rfl

theorem exec_aluImm (op : AluOp) (n : Byte) (s : State) :
    exec (Instr.aluImm op n) s = .next (aluImm op n s) := by
  cases op <;> rfl

theorem exec_incHalf (x : Idx) (k : Half) (s : State) :
    exec (Instr.incHalf x k) s = .next (incHalf x k s) := by
  cases x <;> cases k <;> rfl

theorem exec_decHalf (x : Idx) (k : Half) (s : State) :
    exec (Instr.decHalf x k) s = .next (decHalf x k s) := by
  cases x <;> cases k <;> rfl

theorem exec_incIdx (x : Idx) (d : Byte) (s : State) :
    exec (Instr.incIdx x d) s = .next (incIdx x d s) := by
  cases x <;> rfl

theorem exec_decIdx (x : Idx) (d : Byte) (s : State) :
    exec (Instr.decIdx x d) s = .next (decIdx x d s) := by
  cases x <;> rfl

theorem exec_aluHalf (op : AluOp) (x : Idx) (k : Half) (s : State) :
    exec (Instr.aluHalf op x k) s = .next (aluHalf op x k s) := by
  cases op <;> cases x <;> cases k <;> rfl

theorem exec_aluIdx (op : AluOp) (x : Idx) (d : Byte) (s : State) :
    exec (Instr.aluIdx op x d) s = .next (aluIdx op x d s) := by
  cases op <;> cases x <;> rfl

theorem exec_incPair (p : PairSS) (s : State) :
    exec (Instr.incPair p) s = .next (incPair p s) := by
  cases p <;> rfl

theorem exec_addHlPair (p : PairSS) (s : State) :
    exec (Instr.addHlPair p) s = .next (addHlPair p s) := by
  cases p <;> rfl

theorem exec_decPair (p : PairSS) (s : State) :
    exec (Instr.decPair p) s = .next (decPair p s) := by
  cases p <;> rfl

theorem exec_sbcHlPair (p : PairSS) (s : State) :
    exec (Instr.sbcHlPair p) s = .next (sbcHlPair p s) := by
  cases p <;> rfl

theorem exec_adcHlPair (p : PairSS) (s : State) :
    exec (Instr.adcHlPair p) s = .next (adcHlPair p s) := by
  cases p <;> rfl

theorem exec_addIdxPair (x : Idx) (p : PairPP) (s : State) :
    exec (Instr.addIdxPair x p) s = .next (addIdxPair x p s) := by
  cases x <;> cases p <;> rfl

theorem exec_incIdx16 (x : Idx) (s : State) :
    exec (Instr.incIdx16 x) s = .next (incIdx16 x s) := by
  cases x <;> rfl

theorem exec_decIdx16 (x : Idx) (s : State) :
    exec (Instr.decIdx16 x) s = .next (decIdx16 x s) := by
  cases x <;> rfl

theorem exec_rotReg (op : RotOp) (r : Reg8) (s : State) :
    exec (Instr.rotReg op r) s = .next (rotReg op r s) := by
  cases op <;> cases r <;> rfl

theorem exec_rotMem (op : RotOp) (s : State) :
    exec (Instr.rotMem op) s = .next (rotMem op s) := by
  cases op <;> rfl

theorem exec_rotIdxCopy (op : RotOp) (x : Idx) (r : Reg8) (d : Byte) (s : State) :
    exec (Instr.rotIdxCopy op x r d) s = .next (rotIdxCopy op x r d s) := by
  cases op <;> cases x <;> cases r <;> rfl

theorem exec_rotIdx (op : RotOp) (x : Idx) (d : Byte) (s : State) :
    exec (Instr.rotIdx op x d) s = .next (rotIdx op x d s) := by
  cases op <;> cases x <;> rfl

theorem exec_bitReg (b : Field3) (r : Reg8) (s : State) :
    exec (Instr.bitReg b r) s = .next (bitReg b r s) := by
  cases b <;> cases r <;> rfl

theorem exec_bitMem (b : Field3) (s : State) :
    exec (Instr.bitMem b) s = .next (bitMem b s) := by
  cases b <;> rfl

theorem exec_resBitReg (b : Field3) (r : Reg8) (s : State) :
    exec (Instr.resBitReg b r) s = .next (resBitReg b r s) := by
  cases b <;> cases r <;> rfl

theorem exec_resBitMem (b : Field3) (s : State) :
    exec (Instr.resBitMem b) s = .next (resBitMem b s) := by
  cases b <;> rfl

theorem exec_setBitReg (b : Field3) (r : Reg8) (s : State) :
    exec (Instr.setBitReg b r) s = .next (setBitReg b r s) := by
  cases b <;> cases r <;> rfl

theorem exec_setBitMem (b : Field3) (s : State) :
    exec (Instr.setBitMem b) s = .next (setBitMem b s) := by
  cases b <;> rfl

theorem exec_bitIdx (b : Field3) (x : Idx) (z : Field3) (d : Byte) (s : State) :
    exec (Instr.bitIdx b x z d) s = .next (bitIdx b x z d s) := by
  cases b <;> cases x <;> cases z <;> rfl

theorem exec_resBitIdxCopy (b : Field3) (x : Idx) (r : Reg8) (d : Byte) (s : State) :
    exec (Instr.resBitIdxCopy b x r d) s = .next (resBitIdxCopy b x r d s) := by
  cases b <;> cases x <;> cases r <;> rfl

theorem exec_resBitIdx (b : Field3) (x : Idx) (d : Byte) (s : State) :
    exec (Instr.resBitIdx b x d) s = .next (resBitIdx b x d s) := by
  cases b <;> cases x <;> rfl

theorem exec_setBitIdxCopy (b : Field3) (x : Idx) (r : Reg8) (d : Byte) (s : State) :
    exec (Instr.setBitIdxCopy b x r d) s = .next (setBitIdxCopy b x r d s) := by
  cases b <;> cases x <;> cases r <;> rfl

theorem exec_setBitIdx (b : Field3) (x : Idx) (d : Byte) (s : State) :
    exec (Instr.setBitIdx b x d) s = .next (setBitIdx b x d s) := by
  cases b <;> cases x <;> rfl

theorem exec_jrCond (cc : JrCond) (e : Byte) (s : State) :
    exec (Instr.jrCond cc e) s = .next (jrCond cc e s) := by
  cases cc <;> rfl

theorem exec_retCond (cc : Cond) (s : State) :
    exec (Instr.retCond cc) s = .next (retCond cc s) := by
  cases cc <;> rfl

theorem exec_jpCond (cc : Cond) (nn : Word) (s : State) :
    exec (Instr.jpCond cc nn) s = .next (jpCond cc nn s) := by
  cases cc <;> rfl

theorem exec_callCond (cc : Cond) (nn : Word) (s : State) :
    exec (Instr.callCond cc nn) s = .next (callCond cc nn s) := by
  cases cc <;> rfl

theorem exec_rst (t : Field3) (s : State) :
    exec (Instr.rst t) s = .next (rst t s) := by
  cases t <;> rfl

theorem exec_jpIdx (x : Idx) (s : State) :
    exec (Instr.jpIdx x) s = .next (jpIdx x s) := by
  cases x <;> rfl

theorem exec_inReg (r : Reg8) (s : State) :
    exec (Instr.inReg r) s = .next (inReg r s) := by
  cases r <;> rfl

theorem exec_outReg (r : Reg8) (s : State) :
    exec (Instr.outReg r) s = .next (outReg r s) := by
  cases r <;> rfl

end Sys2Proof.Machine
end

