-- ==== Sys2Proof/Laws/Forms.lean ====
section
/-! SUPPORT. Every instruction is one of 69 groups applied to its operands, or one of the instructions
that form no group: the case analysis to use on Instr. -/

namespace Sys2Proof

/-- To prove a property of every instruction, prove it of every group of R124's operand fields and of
each instruction without one. -/
theorem Instr.byForm {P : Instr → Prop}
    (ldRegImm : ∀ (r : Reg8) (n : Byte), P (Instr.ldRegImm r n))
    (ldRegReg : ∀ (dst : Reg8) (r : Reg8), P (Instr.ldRegReg dst r))
    (ldRegMem : ∀ (r : Reg8), P (Instr.ldRegMem r))
    (ldMemReg : ∀ (r : Reg8), P (Instr.ldMemReg r))
    (ldHalfImm : ∀ (x : Idx) (k : Half) (n : Byte), P (Instr.ldHalfImm x k n))
    (ldIdxImm : ∀ (x : Idx) (d : Byte) (n : Byte), P (Instr.ldIdxImm x d n))
    (ldRegHalf : ∀ (r : PlainReg) (x : Idx) (k : Half), P (Instr.ldRegHalf r x k))
    (ldRegIdx : ∀ (r : Reg8) (x : Idx) (d : Byte), P (Instr.ldRegIdx r x d))
    (ldHalfReg : ∀ (x : Idx) (k : Half) (r : PlainReg), P (Instr.ldHalfReg x k r))
    (ldHalfHalf : ∀ (x : Idx) (k : Half) (k' : Half), P (Instr.ldHalfHalf x k k'))
    (ldIdxReg : ∀ (x : Idx) (r : Reg8) (d : Byte), P (Instr.ldIdxReg x r d))
    (ldPairImm : ∀ (p : PairSS) (nn : Word), P (Instr.ldPairImm p nn))
    (popPair : ∀ (p : PairQQ), P (Instr.popPair p))
    (pushPair : ∀ (p : PairQQ), P (Instr.pushPair p))
    (ldMemPair : ∀ (p : PairSS) (nn : Word), P (Instr.ldMemPair p nn))
    (ldPairMem : ∀ (p : PairSS) (nn : Word), P (Instr.ldPairMem p nn))
    (ldIdxImm16 : ∀ (x : Idx) (nn : Word), P (Instr.ldIdxImm16 x nn))
    (ldMemIdx : ∀ (x : Idx) (nn : Word), P (Instr.ldMemIdx x nn))
    (ldIdxMem : ∀ (x : Idx) (nn : Word), P (Instr.ldIdxMem x nn))
    (popIdx : ∀ (x : Idx), P (Instr.popIdx x))
    (pushIdx : ∀ (x : Idx), P (Instr.pushIdx x))
    (ldSpIdx : ∀ (x : Idx), P (Instr.ldSpIdx x))
    (exSpIdx : ∀ (x : Idx), P (Instr.exSpIdx x))
    (incReg : ∀ (r : Reg8), P (Instr.incReg r))
    (decReg : ∀ (r : Reg8), P (Instr.decReg r))
    (aluReg : ∀ (op : AluOp) (r : Reg8), P (Instr.aluReg op r))
    (aluMem : ∀ (op : AluOp), P (Instr.aluMem op))
    (aluImm : ∀ (op : AluOp) (n : Byte), P (Instr.aluImm op n))
    (incHalf : ∀ (x : Idx) (k : Half), P (Instr.incHalf x k))
    (decHalf : ∀ (x : Idx) (k : Half), P (Instr.decHalf x k))
    (incIdx : ∀ (x : Idx) (d : Byte), P (Instr.incIdx x d))
    (decIdx : ∀ (x : Idx) (d : Byte), P (Instr.decIdx x d))
    (aluHalf : ∀ (op : AluOp) (x : Idx) (k : Half), P (Instr.aluHalf op x k))
    (aluIdx : ∀ (op : AluOp) (x : Idx) (d : Byte), P (Instr.aluIdx op x d))
    (incPair : ∀ (p : PairSS), P (Instr.incPair p))
    (addHlPair : ∀ (p : PairSS), P (Instr.addHlPair p))
    (decPair : ∀ (p : PairSS), P (Instr.decPair p))
    (sbcHlPair : ∀ (p : PairSS), P (Instr.sbcHlPair p))
    (adcHlPair : ∀ (p : PairSS), P (Instr.adcHlPair p))
    (addIdxPair : ∀ (x : Idx) (p : PairPP), P (Instr.addIdxPair x p))
    (incIdx16 : ∀ (x : Idx), P (Instr.incIdx16 x))
    (decIdx16 : ∀ (x : Idx), P (Instr.decIdx16 x))
    (rotReg : ∀ (op : RotOp) (r : Reg8), P (Instr.rotReg op r))
    (rotMem : ∀ (op : RotOp), P (Instr.rotMem op))
    (rotIdxCopy : ∀ (op : RotOp) (x : Idx) (r : Reg8) (d : Byte), P (Instr.rotIdxCopy op x r d))
    (rotIdx : ∀ (op : RotOp) (x : Idx) (d : Byte), P (Instr.rotIdx op x d))
    (bitReg : ∀ (b : Field3) (r : Reg8), P (Instr.bitReg b r))
    (bitMem : ∀ (b : Field3), P (Instr.bitMem b))
    (resBitReg : ∀ (b : Field3) (r : Reg8), P (Instr.resBitReg b r))
    (resBitMem : ∀ (b : Field3), P (Instr.resBitMem b))
    (setBitReg : ∀ (b : Field3) (r : Reg8), P (Instr.setBitReg b r))
    (setBitMem : ∀ (b : Field3), P (Instr.setBitMem b))
    (bitIdx : ∀ (b : Field3) (x : Idx) (z : Field3) (d : Byte), P (Instr.bitIdx b x z d))
    (resBitIdxCopy : ∀ (b : Field3) (x : Idx) (r : Reg8) (d : Byte), P (Instr.resBitIdxCopy b x r d))
    (resBitIdx : ∀ (b : Field3) (x : Idx) (d : Byte), P (Instr.resBitIdx b x d))
    (setBitIdxCopy : ∀ (b : Field3) (x : Idx) (r : Reg8) (d : Byte), P (Instr.setBitIdxCopy b x r d))
    (setBitIdx : ∀ (b : Field3) (x : Idx) (d : Byte), P (Instr.setBitIdx b x d))
    (jrCond : ∀ (cc : JrCond) (e : Byte), P (Instr.jrCond cc e))
    (retCond : ∀ (cc : Cond), P (Instr.retCond cc))
    (jpCond : ∀ (cc : Cond) (nn : Word), P (Instr.jpCond cc nn))
    (callCond : ∀ (cc : Cond) (nn : Word), P (Instr.callCond cc nn))
    (rst : ∀ (t : Field3), P (Instr.rst t))
    (jpIdx : ∀ (x : Idx), P (Instr.jpIdx x))
    (inReg : ∀ (r : Reg8), P (Instr.inReg r))
    (outReg : ∀ (r : Reg8), P (Instr.outReg r))
    (nop : P (.nop))
    (ld_mBC_A : P (.ld_mBC_A))
    (rlca : P (.rlca))
    (ex_AF_AF : P (.ex_AF_AF))
    (ld_A_mBC : P (.ld_A_mBC))
    (rrca : P (.rrca))
    (djnz_e : ∀ (e : Byte), P (.djnz_e e))
    (ld_mDE_A : P (.ld_mDE_A))
    (rla : P (.rla))
    (jr_e : ∀ (e : Byte), P (.jr_e e))
    (ld_A_mDE : P (.ld_A_mDE))
    (rra : P (.rra))
    (ld_mnn_HL : ∀ (nn : Word), P (.ld_mnn_HL nn))
    (daa : P (.daa))
    (ld_HL_mnn : ∀ (nn : Word), P (.ld_HL_mnn nn))
    (cpl : P (.cpl))
    (ld_mnn_A : ∀ (nn : Word), P (.ld_mnn_A nn))
    (inc_mHL : P (.inc_mHL))
    (dec_mHL : P (.dec_mHL))
    (ld_mHL_n : ∀ (n : Byte), P (.ld_mHL_n n))
    (scf : P (.scf))
    (ld_A_mnn : ∀ (nn : Word), P (.ld_A_mnn nn))
    (ccf : P (.ccf))
    (halt : P (.halt))
    (jp_nn : ∀ (nn : Word), P (.jp_nn nn))
    (ret : P (.ret))
    (call_nn : ∀ (nn : Word), P (.call_nn nn))
    (out_pn_A : ∀ (n : Byte), P (.out_pn_A n))
    (exx : P (.exx))
    (in_A_pn : ∀ (n : Byte), P (.in_A_pn n))
    (ex_mSP_HL : P (.ex_mSP_HL))
    (jp_mHL : P (.jp_mHL))
    (ex_DE_HL : P (.ex_DE_HL))
    (di : P (.di))
    (ld_SP_HL : P (.ld_SP_HL))
    (ei : P (.ei))
    (neg : P (.neg))
    (retn : P (.retn))
    (im_0 : P (.im_0))
    (ld_I_A : P (.ld_I_A))
    (reti : P (.reti))
    (ld_R_A : P (.ld_R_A))
    (im_1 : P (.im_1))
    (ld_A_I : P (.ld_A_I))
    (im_2 : P (.im_2))
    (ld_A_R : P (.ld_A_R))
    (rrd : P (.rrd))
    (rld : P (.rld))
    (ldi : P (.ldi))
    (cpi : P (.cpi))
    (ini : P (.ini))
    (outi : P (.outi))
    (ldd : P (.ldd))
    (cpd : P (.cpd))
    (ind : P (.ind))
    (outd : P (.outd))
    (ldir : P (.ldir))
    (cpir : P (.cpir))
    (inir : P (.inir))
    (otir : P (.otir))
    (lddr : P (.lddr))
    (cpdr : P (.cpdr))
    (indr : P (.indr))
    (otdr : P (.otdr))
    (i : Instr) : P i :=
  match i with
  | .nop => nop
  | .ld_BC_nn nn => ldPairImm .bc nn
  | .ld_mBC_A => ld_mBC_A
  | .inc_BC => incPair .bc
  | .inc_B => incReg .b
  | .dec_B => decReg .b
  | .ld_B_n n => ldRegImm .b n
  | .rlca => rlca
  | .ex_AF_AF => ex_AF_AF
  | .add_HL_BC => addHlPair .bc
  | .ld_A_mBC => ld_A_mBC
  | .dec_BC => decPair .bc
  | .inc_C => incReg .c
  | .dec_C => decReg .c
  | .ld_C_n n => ldRegImm .c n
  | .rrca => rrca
  | .djnz_e e => djnz_e e
  | .ld_DE_nn nn => ldPairImm .de nn
  | .ld_mDE_A => ld_mDE_A
  | .inc_DE => incPair .de
  | .inc_D => incReg .d
  | .dec_D => decReg .d
  | .ld_D_n n => ldRegImm .d n
  | .rla => rla
  | .jr_e e => jr_e e
  | .add_HL_DE => addHlPair .de
  | .ld_A_mDE => ld_A_mDE
  | .dec_DE => decPair .de
  | .inc_E => incReg .e
  | .dec_E => decReg .e
  | .ld_E_n n => ldRegImm .e n
  | .rra => rra
  | .jr_NZ_e e => jrCond .nz e
  | .ld_HL_nn nn => ldPairImm .hl nn
  | .ld_mnn_HL nn => ld_mnn_HL nn
  | .inc_HL => incPair .hl
  | .inc_H => incReg .h
  | .dec_H => decReg .h
  | .ld_H_n n => ldRegImm .h n
  | .daa => daa
  | .jr_Z_e e => jrCond .z e
  | .add_HL_HL => addHlPair .hl
  | .ld_HL_mnn nn => ld_HL_mnn nn
  | .dec_HL => decPair .hl
  | .inc_L => incReg .l
  | .dec_L => decReg .l
  | .ld_L_n n => ldRegImm .l n
  | .cpl => cpl
  | .jr_NC_e e => jrCond .nc e
  | .ld_SP_nn nn => ldPairImm .sp nn
  | .ld_mnn_A nn => ld_mnn_A nn
  | .inc_SP => incPair .sp
  | .inc_mHL => inc_mHL
  | .dec_mHL => dec_mHL
  | .ld_mHL_n n => ld_mHL_n n
  | .scf => scf
  | .jr_C_e e => jrCond .c e
  | .add_HL_SP => addHlPair .sp
  | .ld_A_mnn nn => ld_A_mnn nn
  | .dec_SP => decPair .sp
  | .inc_A => incReg .a
  | .dec_A => decReg .a
  | .ld_A_n n => ldRegImm .a n
  | .ccf => ccf
  | .ld_B_B => ldRegReg .b .b
  | .ld_B_C => ldRegReg .b .c
  | .ld_B_D => ldRegReg .b .d
  | .ld_B_E => ldRegReg .b .e
  | .ld_B_H => ldRegReg .b .h
  | .ld_B_L => ldRegReg .b .l
  | .ld_B_mHL => ldRegMem .b
  | .ld_B_A => ldRegReg .b .a
  | .ld_C_B => ldRegReg .c .b
  | .ld_C_C => ldRegReg .c .c
  | .ld_C_D => ldRegReg .c .d
  | .ld_C_E => ldRegReg .c .e
  | .ld_C_H => ldRegReg .c .h
  | .ld_C_L => ldRegReg .c .l
  | .ld_C_mHL => ldRegMem .c
  | .ld_C_A => ldRegReg .c .a
  | .ld_D_B => ldRegReg .d .b
  | .ld_D_C => ldRegReg .d .c
  | .ld_D_D => ldRegReg .d .d
  | .ld_D_E => ldRegReg .d .e
  | .ld_D_H => ldRegReg .d .h
  | .ld_D_L => ldRegReg .d .l
  | .ld_D_mHL => ldRegMem .d
  | .ld_D_A => ldRegReg .d .a
  | .ld_E_B => ldRegReg .e .b
  | .ld_E_C => ldRegReg .e .c
  | .ld_E_D => ldRegReg .e .d
  | .ld_E_E => ldRegReg .e .e
  | .ld_E_H => ldRegReg .e .h
  | .ld_E_L => ldRegReg .e .l
  | .ld_E_mHL => ldRegMem .e
  | .ld_E_A => ldRegReg .e .a
  | .ld_H_B => ldRegReg .h .b
  | .ld_H_C => ldRegReg .h .c
  | .ld_H_D => ldRegReg .h .d
  | .ld_H_E => ldRegReg .h .e
  | .ld_H_H => ldRegReg .h .h
  | .ld_H_L => ldRegReg .h .l
  | .ld_H_mHL => ldRegMem .h
  | .ld_H_A => ldRegReg .h .a
  | .ld_L_B => ldRegReg .l .b
  | .ld_L_C => ldRegReg .l .c
  | .ld_L_D => ldRegReg .l .d
  | .ld_L_E => ldRegReg .l .e
  | .ld_L_H => ldRegReg .l .h
  | .ld_L_L => ldRegReg .l .l
  | .ld_L_mHL => ldRegMem .l
  | .ld_L_A => ldRegReg .l .a
  | .ld_mHL_B => ldMemReg .b
  | .ld_mHL_C => ldMemReg .c
  | .ld_mHL_D => ldMemReg .d
  | .ld_mHL_E => ldMemReg .e
  | .ld_mHL_H => ldMemReg .h
  | .ld_mHL_L => ldMemReg .l
  | .halt => halt
  | .ld_mHL_A => ldMemReg .a
  | .ld_A_B => ldRegReg .a .b
  | .ld_A_C => ldRegReg .a .c
  | .ld_A_D => ldRegReg .a .d
  | .ld_A_E => ldRegReg .a .e
  | .ld_A_H => ldRegReg .a .h
  | .ld_A_L => ldRegReg .a .l
  | .ld_A_mHL => ldRegMem .a
  | .ld_A_A => ldRegReg .a .a
  | .add_A_B => aluReg .add .b
  | .add_A_C => aluReg .add .c
  | .add_A_D => aluReg .add .d
  | .add_A_E => aluReg .add .e
  | .add_A_H => aluReg .add .h
  | .add_A_L => aluReg .add .l
  | .add_A_mHL => aluMem .add
  | .add_A_A => aluReg .add .a
  | .adc_A_B => aluReg .adc .b
  | .adc_A_C => aluReg .adc .c
  | .adc_A_D => aluReg .adc .d
  | .adc_A_E => aluReg .adc .e
  | .adc_A_H => aluReg .adc .h
  | .adc_A_L => aluReg .adc .l
  | .adc_A_mHL => aluMem .adc
  | .adc_A_A => aluReg .adc .a
  | .sub_B => aluReg .sub .b
  | .sub_C => aluReg .sub .c
  | .sub_D => aluReg .sub .d
  | .sub_E => aluReg .sub .e
  | .sub_H => aluReg .sub .h
  | .sub_L => aluReg .sub .l
  | .sub_mHL => aluMem .sub
  | .sub_A => aluReg .sub .a
  | .sbc_A_B => aluReg .sbc .b
  | .sbc_A_C => aluReg .sbc .c
  | .sbc_A_D => aluReg .sbc .d
  | .sbc_A_E => aluReg .sbc .e
  | .sbc_A_H => aluReg .sbc .h
  | .sbc_A_L => aluReg .sbc .l
  | .sbc_A_mHL => aluMem .sbc
  | .sbc_A_A => aluReg .sbc .a
  | .and_B => aluReg .and .b
  | .and_C => aluReg .and .c
  | .and_D => aluReg .and .d
  | .and_E => aluReg .and .e
  | .and_H => aluReg .and .h
  | .and_L => aluReg .and .l
  | .and_mHL => aluMem .and
  | .and_A => aluReg .and .a
  | .xor_B => aluReg .xor .b
  | .xor_C => aluReg .xor .c
  | .xor_D => aluReg .xor .d
  | .xor_E => aluReg .xor .e
  | .xor_H => aluReg .xor .h
  | .xor_L => aluReg .xor .l
  | .xor_mHL => aluMem .xor
  | .xor_A => aluReg .xor .a
  | .or_B => aluReg .or .b
  | .or_C => aluReg .or .c
  | .or_D => aluReg .or .d
  | .or_E => aluReg .or .e
  | .or_H => aluReg .or .h
  | .or_L => aluReg .or .l
  | .or_mHL => aluMem .or
  | .or_A => aluReg .or .a
  | .cp_B => aluReg .cp .b
  | .cp_C => aluReg .cp .c
  | .cp_D => aluReg .cp .d
  | .cp_E => aluReg .cp .e
  | .cp_H => aluReg .cp .h
  | .cp_L => aluReg .cp .l
  | .cp_mHL => aluMem .cp
  | .cp_A => aluReg .cp .a
  | .ret_NZ => retCond .nz
  | .pop_BC => popPair .bc
  | .jp_NZ_nn nn => jpCond .nz nn
  | .jp_nn nn => jp_nn nn
  | .call_NZ_nn nn => callCond .nz nn
  | .push_BC => pushPair .bc
  | .add_A_n n => aluImm .add n
  | .rst_00H => rst .f0
  | .ret_Z => retCond .z
  | .ret => ret
  | .jp_Z_nn nn => jpCond .z nn
  | .call_Z_nn nn => callCond .z nn
  | .call_nn nn => call_nn nn
  | .adc_A_n n => aluImm .adc n
  | .rst_08H => rst .f1
  | .ret_NC => retCond .nc
  | .pop_DE => popPair .de
  | .jp_NC_nn nn => jpCond .nc nn
  | .out_pn_A n => out_pn_A n
  | .call_NC_nn nn => callCond .nc nn
  | .push_DE => pushPair .de
  | .sub_n n => aluImm .sub n
  | .rst_10H => rst .f2
  | .ret_C => retCond .c
  | .exx => exx
  | .jp_C_nn nn => jpCond .c nn
  | .in_A_pn n => in_A_pn n
  | .call_C_nn nn => callCond .c nn
  | .sbc_A_n n => aluImm .sbc n
  | .rst_18H => rst .f3
  | .ret_PO => retCond .po
  | .pop_HL => popPair .hl
  | .jp_PO_nn nn => jpCond .po nn
  | .ex_mSP_HL => ex_mSP_HL
  | .call_PO_nn nn => callCond .po nn
  | .push_HL => pushPair .hl
  | .and_n n => aluImm .and n
  | .rst_20H => rst .f4
  | .ret_PE => retCond .pe
  | .jp_mHL => jp_mHL
  | .jp_PE_nn nn => jpCond .pe nn
  | .ex_DE_HL => ex_DE_HL
  | .call_PE_nn nn => callCond .pe nn
  | .xor_n n => aluImm .xor n
  | .rst_28H => rst .f5
  | .ret_P => retCond .p
  | .pop_AF => popPair .af
  | .jp_P_nn nn => jpCond .p nn
  | .di => di
  | .call_P_nn nn => callCond .p nn
  | .push_AF => pushPair .af
  | .or_n n => aluImm .or n
  | .rst_30H => rst .f6
  | .ret_M => retCond .m
  | .ld_SP_HL => ld_SP_HL
  | .jp_M_nn nn => jpCond .m nn
  | .ei => ei
  | .call_M_nn nn => callCond .m nn
  | .cp_n n => aluImm .cp n
  | .rst_38H => rst .f7
  | .rlc_B => rotReg .rlc .b
  | .rlc_C => rotReg .rlc .c
  | .rlc_D => rotReg .rlc .d
  | .rlc_E => rotReg .rlc .e
  | .rlc_H => rotReg .rlc .h
  | .rlc_L => rotReg .rlc .l
  | .rlc_mHL => rotMem .rlc
  | .rlc_A => rotReg .rlc .a
  | .rrc_B => rotReg .rrc .b
  | .rrc_C => rotReg .rrc .c
  | .rrc_D => rotReg .rrc .d
  | .rrc_E => rotReg .rrc .e
  | .rrc_H => rotReg .rrc .h
  | .rrc_L => rotReg .rrc .l
  | .rrc_mHL => rotMem .rrc
  | .rrc_A => rotReg .rrc .a
  | .rl_B => rotReg .rl .b
  | .rl_C => rotReg .rl .c
  | .rl_D => rotReg .rl .d
  | .rl_E => rotReg .rl .e
  | .rl_H => rotReg .rl .h
  | .rl_L => rotReg .rl .l
  | .rl_mHL => rotMem .rl
  | .rl_A => rotReg .rl .a
  | .rr_B => rotReg .rr .b
  | .rr_C => rotReg .rr .c
  | .rr_D => rotReg .rr .d
  | .rr_E => rotReg .rr .e
  | .rr_H => rotReg .rr .h
  | .rr_L => rotReg .rr .l
  | .rr_mHL => rotMem .rr
  | .rr_A => rotReg .rr .a
  | .sla_B => rotReg .sla .b
  | .sla_C => rotReg .sla .c
  | .sla_D => rotReg .sla .d
  | .sla_E => rotReg .sla .e
  | .sla_H => rotReg .sla .h
  | .sla_L => rotReg .sla .l
  | .sla_mHL => rotMem .sla
  | .sla_A => rotReg .sla .a
  | .sra_B => rotReg .sra .b
  | .sra_C => rotReg .sra .c
  | .sra_D => rotReg .sra .d
  | .sra_E => rotReg .sra .e
  | .sra_H => rotReg .sra .h
  | .sra_L => rotReg .sra .l
  | .sra_mHL => rotMem .sra
  | .sra_A => rotReg .sra .a
  | .sll_B => rotReg .sll .b
  | .sll_C => rotReg .sll .c
  | .sll_D => rotReg .sll .d
  | .sll_E => rotReg .sll .e
  | .sll_H => rotReg .sll .h
  | .sll_L => rotReg .sll .l
  | .sll_mHL => rotMem .sll
  | .sll_A => rotReg .sll .a
  | .srl_B => rotReg .srl .b
  | .srl_C => rotReg .srl .c
  | .srl_D => rotReg .srl .d
  | .srl_E => rotReg .srl .e
  | .srl_H => rotReg .srl .h
  | .srl_L => rotReg .srl .l
  | .srl_mHL => rotMem .srl
  | .srl_A => rotReg .srl .a
  | .bit_0_B => bitReg .f0 .b
  | .bit_0_C => bitReg .f0 .c
  | .bit_0_D => bitReg .f0 .d
  | .bit_0_E => bitReg .f0 .e
  | .bit_0_H => bitReg .f0 .h
  | .bit_0_L => bitReg .f0 .l
  | .bit_0_mHL => bitMem .f0
  | .bit_0_A => bitReg .f0 .a
  | .bit_1_B => bitReg .f1 .b
  | .bit_1_C => bitReg .f1 .c
  | .bit_1_D => bitReg .f1 .d
  | .bit_1_E => bitReg .f1 .e
  | .bit_1_H => bitReg .f1 .h
  | .bit_1_L => bitReg .f1 .l
  | .bit_1_mHL => bitMem .f1
  | .bit_1_A => bitReg .f1 .a
  | .bit_2_B => bitReg .f2 .b
  | .bit_2_C => bitReg .f2 .c
  | .bit_2_D => bitReg .f2 .d
  | .bit_2_E => bitReg .f2 .e
  | .bit_2_H => bitReg .f2 .h
  | .bit_2_L => bitReg .f2 .l
  | .bit_2_mHL => bitMem .f2
  | .bit_2_A => bitReg .f2 .a
  | .bit_3_B => bitReg .f3 .b
  | .bit_3_C => bitReg .f3 .c
  | .bit_3_D => bitReg .f3 .d
  | .bit_3_E => bitReg .f3 .e
  | .bit_3_H => bitReg .f3 .h
  | .bit_3_L => bitReg .f3 .l
  | .bit_3_mHL => bitMem .f3
  | .bit_3_A => bitReg .f3 .a
  | .bit_4_B => bitReg .f4 .b
  | .bit_4_C => bitReg .f4 .c
  | .bit_4_D => bitReg .f4 .d
  | .bit_4_E => bitReg .f4 .e
  | .bit_4_H => bitReg .f4 .h
  | .bit_4_L => bitReg .f4 .l
  | .bit_4_mHL => bitMem .f4
  | .bit_4_A => bitReg .f4 .a
  | .bit_5_B => bitReg .f5 .b
  | .bit_5_C => bitReg .f5 .c
  | .bit_5_D => bitReg .f5 .d
  | .bit_5_E => bitReg .f5 .e
  | .bit_5_H => bitReg .f5 .h
  | .bit_5_L => bitReg .f5 .l
  | .bit_5_mHL => bitMem .f5
  | .bit_5_A => bitReg .f5 .a
  | .bit_6_B => bitReg .f6 .b
  | .bit_6_C => bitReg .f6 .c
  | .bit_6_D => bitReg .f6 .d
  | .bit_6_E => bitReg .f6 .e
  | .bit_6_H => bitReg .f6 .h
  | .bit_6_L => bitReg .f6 .l
  | .bit_6_mHL => bitMem .f6
  | .bit_6_A => bitReg .f6 .a
  | .bit_7_B => bitReg .f7 .b
  | .bit_7_C => bitReg .f7 .c
  | .bit_7_D => bitReg .f7 .d
  | .bit_7_E => bitReg .f7 .e
  | .bit_7_H => bitReg .f7 .h
  | .bit_7_L => bitReg .f7 .l
  | .bit_7_mHL => bitMem .f7
  | .bit_7_A => bitReg .f7 .a
  | .res_0_B => resBitReg .f0 .b
  | .res_0_C => resBitReg .f0 .c
  | .res_0_D => resBitReg .f0 .d
  | .res_0_E => resBitReg .f0 .e
  | .res_0_H => resBitReg .f0 .h
  | .res_0_L => resBitReg .f0 .l
  | .res_0_mHL => resBitMem .f0
  | .res_0_A => resBitReg .f0 .a
  | .res_1_B => resBitReg .f1 .b
  | .res_1_C => resBitReg .f1 .c
  | .res_1_D => resBitReg .f1 .d
  | .res_1_E => resBitReg .f1 .e
  | .res_1_H => resBitReg .f1 .h
  | .res_1_L => resBitReg .f1 .l
  | .res_1_mHL => resBitMem .f1
  | .res_1_A => resBitReg .f1 .a
  | .res_2_B => resBitReg .f2 .b
  | .res_2_C => resBitReg .f2 .c
  | .res_2_D => resBitReg .f2 .d
  | .res_2_E => resBitReg .f2 .e
  | .res_2_H => resBitReg .f2 .h
  | .res_2_L => resBitReg .f2 .l
  | .res_2_mHL => resBitMem .f2
  | .res_2_A => resBitReg .f2 .a
  | .res_3_B => resBitReg .f3 .b
  | .res_3_C => resBitReg .f3 .c
  | .res_3_D => resBitReg .f3 .d
  | .res_3_E => resBitReg .f3 .e
  | .res_3_H => resBitReg .f3 .h
  | .res_3_L => resBitReg .f3 .l
  | .res_3_mHL => resBitMem .f3
  | .res_3_A => resBitReg .f3 .a
  | .res_4_B => resBitReg .f4 .b
  | .res_4_C => resBitReg .f4 .c
  | .res_4_D => resBitReg .f4 .d
  | .res_4_E => resBitReg .f4 .e
  | .res_4_H => resBitReg .f4 .h
  | .res_4_L => resBitReg .f4 .l
  | .res_4_mHL => resBitMem .f4
  | .res_4_A => resBitReg .f4 .a
  | .res_5_B => resBitReg .f5 .b
  | .res_5_C => resBitReg .f5 .c
  | .res_5_D => resBitReg .f5 .d
  | .res_5_E => resBitReg .f5 .e
  | .res_5_H => resBitReg .f5 .h
  | .res_5_L => resBitReg .f5 .l
  | .res_5_mHL => resBitMem .f5
  | .res_5_A => resBitReg .f5 .a
  | .res_6_B => resBitReg .f6 .b
  | .res_6_C => resBitReg .f6 .c
  | .res_6_D => resBitReg .f6 .d
  | .res_6_E => resBitReg .f6 .e
  | .res_6_H => resBitReg .f6 .h
  | .res_6_L => resBitReg .f6 .l
  | .res_6_mHL => resBitMem .f6
  | .res_6_A => resBitReg .f6 .a
  | .res_7_B => resBitReg .f7 .b
  | .res_7_C => resBitReg .f7 .c
  | .res_7_D => resBitReg .f7 .d
  | .res_7_E => resBitReg .f7 .e
  | .res_7_H => resBitReg .f7 .h
  | .res_7_L => resBitReg .f7 .l
  | .res_7_mHL => resBitMem .f7
  | .res_7_A => resBitReg .f7 .a
  | .set_0_B => setBitReg .f0 .b
  | .set_0_C => setBitReg .f0 .c
  | .set_0_D => setBitReg .f0 .d
  | .set_0_E => setBitReg .f0 .e
  | .set_0_H => setBitReg .f0 .h
  | .set_0_L => setBitReg .f0 .l
  | .set_0_mHL => setBitMem .f0
  | .set_0_A => setBitReg .f0 .a
  | .set_1_B => setBitReg .f1 .b
  | .set_1_C => setBitReg .f1 .c
  | .set_1_D => setBitReg .f1 .d
  | .set_1_E => setBitReg .f1 .e
  | .set_1_H => setBitReg .f1 .h
  | .set_1_L => setBitReg .f1 .l
  | .set_1_mHL => setBitMem .f1
  | .set_1_A => setBitReg .f1 .a
  | .set_2_B => setBitReg .f2 .b
  | .set_2_C => setBitReg .f2 .c
  | .set_2_D => setBitReg .f2 .d
  | .set_2_E => setBitReg .f2 .e
  | .set_2_H => setBitReg .f2 .h
  | .set_2_L => setBitReg .f2 .l
  | .set_2_mHL => setBitMem .f2
  | .set_2_A => setBitReg .f2 .a
  | .set_3_B => setBitReg .f3 .b
  | .set_3_C => setBitReg .f3 .c
  | .set_3_D => setBitReg .f3 .d
  | .set_3_E => setBitReg .f3 .e
  | .set_3_H => setBitReg .f3 .h
  | .set_3_L => setBitReg .f3 .l
  | .set_3_mHL => setBitMem .f3
  | .set_3_A => setBitReg .f3 .a
  | .set_4_B => setBitReg .f4 .b
  | .set_4_C => setBitReg .f4 .c
  | .set_4_D => setBitReg .f4 .d
  | .set_4_E => setBitReg .f4 .e
  | .set_4_H => setBitReg .f4 .h
  | .set_4_L => setBitReg .f4 .l
  | .set_4_mHL => setBitMem .f4
  | .set_4_A => setBitReg .f4 .a
  | .set_5_B => setBitReg .f5 .b
  | .set_5_C => setBitReg .f5 .c
  | .set_5_D => setBitReg .f5 .d
  | .set_5_E => setBitReg .f5 .e
  | .set_5_H => setBitReg .f5 .h
  | .set_5_L => setBitReg .f5 .l
  | .set_5_mHL => setBitMem .f5
  | .set_5_A => setBitReg .f5 .a
  | .set_6_B => setBitReg .f6 .b
  | .set_6_C => setBitReg .f6 .c
  | .set_6_D => setBitReg .f6 .d
  | .set_6_E => setBitReg .f6 .e
  | .set_6_H => setBitReg .f6 .h
  | .set_6_L => setBitReg .f6 .l
  | .set_6_mHL => setBitMem .f6
  | .set_6_A => setBitReg .f6 .a
  | .set_7_B => setBitReg .f7 .b
  | .set_7_C => setBitReg .f7 .c
  | .set_7_D => setBitReg .f7 .d
  | .set_7_E => setBitReg .f7 .e
  | .set_7_H => setBitReg .f7 .h
  | .set_7_L => setBitReg .f7 .l
  | .set_7_mHL => setBitMem .f7
  | .set_7_A => setBitReg .f7 .a
  | .in_B_pC => inReg .b
  | .out_pC_B => outReg .b
  | .sbc_HL_BC => sbcHlPair .bc
  | .ld_mnn_BC nn => ldMemPair .bc nn
  | .neg => neg
  | .retn => retn
  | .im_0 => im_0
  | .ld_I_A => ld_I_A
  | .in_C_pC => inReg .c
  | .out_pC_C => outReg .c
  | .adc_HL_BC => adcHlPair .bc
  | .ld_BC_mnn nn => ldPairMem .bc nn
  | .reti => reti
  | .ld_R_A => ld_R_A
  | .in_D_pC => inReg .d
  | .out_pC_D => outReg .d
  | .sbc_HL_DE => sbcHlPair .de
  | .ld_mnn_DE nn => ldMemPair .de nn
  | .im_1 => im_1
  | .ld_A_I => ld_A_I
  | .in_E_pC => inReg .e
  | .out_pC_E => outReg .e
  | .adc_HL_DE => adcHlPair .de
  | .ld_DE_mnn nn => ldPairMem .de nn
  | .im_2 => im_2
  | .ld_A_R => ld_A_R
  | .in_H_pC => inReg .h
  | .out_pC_H => outReg .h
  | .sbc_HL_HL => sbcHlPair .hl
  | .ld_mnn_HL_ed nn => ldMemPair .hl nn
  | .rrd => rrd
  | .in_L_pC => inReg .l
  | .out_pC_L => outReg .l
  | .adc_HL_HL => adcHlPair .hl
  | .ld_HL_mnn_ed nn => ldPairMem .hl nn
  | .rld => rld
  | .sbc_HL_SP => sbcHlPair .sp
  | .ld_mnn_SP nn => ldMemPair .sp nn
  | .in_A_pC => inReg .a
  | .out_pC_A => outReg .a
  | .adc_HL_SP => adcHlPair .sp
  | .ld_SP_mnn nn => ldPairMem .sp nn
  | .ldi => ldi
  | .cpi => cpi
  | .ini => ini
  | .outi => outi
  | .ldd => ldd
  | .cpd => cpd
  | .ind => ind
  | .outd => outd
  | .ldir => ldir
  | .cpir => cpir
  | .inir => inir
  | .otir => otir
  | .lddr => lddr
  | .cpdr => cpdr
  | .indr => indr
  | .otdr => otdr
  | .add_IX_BC => addIdxPair .ix .bc
  | .add_IX_DE => addIdxPair .ix .de
  | .ld_IX_nn nn => ldIdxImm16 .ix nn
  | .ld_mnn_IX nn => ldMemIdx .ix nn
  | .inc_IX => incIdx16 .ix
  | .inc_IXH => incHalf .ix .high
  | .dec_IXH => decHalf .ix .high
  | .ld_IXH_n n => ldHalfImm .ix .high n
  | .add_IX_IX => addIdxPair .ix .self
  | .ld_IX_mnn nn => ldIdxMem .ix nn
  | .dec_IX => decIdx16 .ix
  | .inc_IXL => incHalf .ix .low
  | .dec_IXL => decHalf .ix .low
  | .ld_IXL_n n => ldHalfImm .ix .low n
  | .inc_mIXd d => incIdx .ix d
  | .dec_mIXd d => decIdx .ix d
  | .ld_mIXd_n d n => ldIdxImm .ix d n
  | .add_IX_SP => addIdxPair .ix .sp
  | .ld_B_IXH => ldRegHalf .b .ix .high
  | .ld_B_IXL => ldRegHalf .b .ix .low
  | .ld_B_mIXd d => ldRegIdx .b .ix d
  | .ld_C_IXH => ldRegHalf .c .ix .high
  | .ld_C_IXL => ldRegHalf .c .ix .low
  | .ld_C_mIXd d => ldRegIdx .c .ix d
  | .ld_D_IXH => ldRegHalf .d .ix .high
  | .ld_D_IXL => ldRegHalf .d .ix .low
  | .ld_D_mIXd d => ldRegIdx .d .ix d
  | .ld_E_IXH => ldRegHalf .e .ix .high
  | .ld_E_IXL => ldRegHalf .e .ix .low
  | .ld_E_mIXd d => ldRegIdx .e .ix d
  | .ld_IXH_B => ldHalfReg .ix .high .b
  | .ld_IXH_C => ldHalfReg .ix .high .c
  | .ld_IXH_D => ldHalfReg .ix .high .d
  | .ld_IXH_E => ldHalfReg .ix .high .e
  | .ld_IXH_IXH => ldHalfHalf .ix .high .high
  | .ld_IXH_IXL => ldHalfHalf .ix .high .low
  | .ld_H_mIXd d => ldRegIdx .h .ix d
  | .ld_IXH_A => ldHalfReg .ix .high .a
  | .ld_IXL_B => ldHalfReg .ix .low .b
  | .ld_IXL_C => ldHalfReg .ix .low .c
  | .ld_IXL_D => ldHalfReg .ix .low .d
  | .ld_IXL_E => ldHalfReg .ix .low .e
  | .ld_IXL_IXH => ldHalfHalf .ix .low .high
  | .ld_IXL_IXL => ldHalfHalf .ix .low .low
  | .ld_L_mIXd d => ldRegIdx .l .ix d
  | .ld_IXL_A => ldHalfReg .ix .low .a
  | .ld_mIXd_B d => ldIdxReg .ix .b d
  | .ld_mIXd_C d => ldIdxReg .ix .c d
  | .ld_mIXd_D d => ldIdxReg .ix .d d
  | .ld_mIXd_E d => ldIdxReg .ix .e d
  | .ld_mIXd_H d => ldIdxReg .ix .h d
  | .ld_mIXd_L d => ldIdxReg .ix .l d
  | .ld_mIXd_A d => ldIdxReg .ix .a d
  | .ld_A_IXH => ldRegHalf .a .ix .high
  | .ld_A_IXL => ldRegHalf .a .ix .low
  | .ld_A_mIXd d => ldRegIdx .a .ix d
  | .add_A_IXH => aluHalf .add .ix .high
  | .add_A_IXL => aluHalf .add .ix .low
  | .add_A_mIXd d => aluIdx .add .ix d
  | .adc_A_IXH => aluHalf .adc .ix .high
  | .adc_A_IXL => aluHalf .adc .ix .low
  | .adc_A_mIXd d => aluIdx .adc .ix d
  | .sub_IXH => aluHalf .sub .ix .high
  | .sub_IXL => aluHalf .sub .ix .low
  | .sub_mIXd d => aluIdx .sub .ix d
  | .sbc_A_IXH => aluHalf .sbc .ix .high
  | .sbc_A_IXL => aluHalf .sbc .ix .low
  | .sbc_A_mIXd d => aluIdx .sbc .ix d
  | .and_IXH => aluHalf .and .ix .high
  | .and_IXL => aluHalf .and .ix .low
  | .and_mIXd d => aluIdx .and .ix d
  | .xor_IXH => aluHalf .xor .ix .high
  | .xor_IXL => aluHalf .xor .ix .low
  | .xor_mIXd d => aluIdx .xor .ix d
  | .or_IXH => aluHalf .or .ix .high
  | .or_IXL => aluHalf .or .ix .low
  | .or_mIXd d => aluIdx .or .ix d
  | .cp_IXH => aluHalf .cp .ix .high
  | .cp_IXL => aluHalf .cp .ix .low
  | .cp_mIXd d => aluIdx .cp .ix d
  | .pop_IX => popIdx .ix
  | .ex_mSP_IX => exSpIdx .ix
  | .push_IX => pushIdx .ix
  | .jp_mIX => jpIdx .ix
  | .ld_SP_IX => ldSpIdx .ix
  | .rlc_mIXd_B d => rotIdxCopy .rlc .ix .b d
  | .rlc_mIXd_C d => rotIdxCopy .rlc .ix .c d
  | .rlc_mIXd_D d => rotIdxCopy .rlc .ix .d d
  | .rlc_mIXd_E d => rotIdxCopy .rlc .ix .e d
  | .rlc_mIXd_H d => rotIdxCopy .rlc .ix .h d
  | .rlc_mIXd_L d => rotIdxCopy .rlc .ix .l d
  | .rlc_mIXd d => rotIdx .rlc .ix d
  | .rlc_mIXd_A d => rotIdxCopy .rlc .ix .a d
  | .rrc_mIXd_B d => rotIdxCopy .rrc .ix .b d
  | .rrc_mIXd_C d => rotIdxCopy .rrc .ix .c d
  | .rrc_mIXd_D d => rotIdxCopy .rrc .ix .d d
  | .rrc_mIXd_E d => rotIdxCopy .rrc .ix .e d
  | .rrc_mIXd_H d => rotIdxCopy .rrc .ix .h d
  | .rrc_mIXd_L d => rotIdxCopy .rrc .ix .l d
  | .rrc_mIXd d => rotIdx .rrc .ix d
  | .rrc_mIXd_A d => rotIdxCopy .rrc .ix .a d
  | .rl_mIXd_B d => rotIdxCopy .rl .ix .b d
  | .rl_mIXd_C d => rotIdxCopy .rl .ix .c d
  | .rl_mIXd_D d => rotIdxCopy .rl .ix .d d
  | .rl_mIXd_E d => rotIdxCopy .rl .ix .e d
  | .rl_mIXd_H d => rotIdxCopy .rl .ix .h d
  | .rl_mIXd_L d => rotIdxCopy .rl .ix .l d
  | .rl_mIXd d => rotIdx .rl .ix d
  | .rl_mIXd_A d => rotIdxCopy .rl .ix .a d
  | .rr_mIXd_B d => rotIdxCopy .rr .ix .b d
  | .rr_mIXd_C d => rotIdxCopy .rr .ix .c d
  | .rr_mIXd_D d => rotIdxCopy .rr .ix .d d
  | .rr_mIXd_E d => rotIdxCopy .rr .ix .e d
  | .rr_mIXd_H d => rotIdxCopy .rr .ix .h d
  | .rr_mIXd_L d => rotIdxCopy .rr .ix .l d
  | .rr_mIXd d => rotIdx .rr .ix d
  | .rr_mIXd_A d => rotIdxCopy .rr .ix .a d
  | .sla_mIXd_B d => rotIdxCopy .sla .ix .b d
  | .sla_mIXd_C d => rotIdxCopy .sla .ix .c d
  | .sla_mIXd_D d => rotIdxCopy .sla .ix .d d
  | .sla_mIXd_E d => rotIdxCopy .sla .ix .e d
  | .sla_mIXd_H d => rotIdxCopy .sla .ix .h d
  | .sla_mIXd_L d => rotIdxCopy .sla .ix .l d
  | .sla_mIXd d => rotIdx .sla .ix d
  | .sla_mIXd_A d => rotIdxCopy .sla .ix .a d
  | .sra_mIXd_B d => rotIdxCopy .sra .ix .b d
  | .sra_mIXd_C d => rotIdxCopy .sra .ix .c d
  | .sra_mIXd_D d => rotIdxCopy .sra .ix .d d
  | .sra_mIXd_E d => rotIdxCopy .sra .ix .e d
  | .sra_mIXd_H d => rotIdxCopy .sra .ix .h d
  | .sra_mIXd_L d => rotIdxCopy .sra .ix .l d
  | .sra_mIXd d => rotIdx .sra .ix d
  | .sra_mIXd_A d => rotIdxCopy .sra .ix .a d
  | .sll_mIXd_B d => rotIdxCopy .sll .ix .b d
  | .sll_mIXd_C d => rotIdxCopy .sll .ix .c d
  | .sll_mIXd_D d => rotIdxCopy .sll .ix .d d
  | .sll_mIXd_E d => rotIdxCopy .sll .ix .e d
  | .sll_mIXd_H d => rotIdxCopy .sll .ix .h d
  | .sll_mIXd_L d => rotIdxCopy .sll .ix .l d
  | .sll_mIXd d => rotIdx .sll .ix d
  | .sll_mIXd_A d => rotIdxCopy .sll .ix .a d
  | .srl_mIXd_B d => rotIdxCopy .srl .ix .b d
  | .srl_mIXd_C d => rotIdxCopy .srl .ix .c d
  | .srl_mIXd_D d => rotIdxCopy .srl .ix .d d
  | .srl_mIXd_E d => rotIdxCopy .srl .ix .e d
  | .srl_mIXd_H d => rotIdxCopy .srl .ix .h d
  | .srl_mIXd_L d => rotIdxCopy .srl .ix .l d
  | .srl_mIXd d => rotIdx .srl .ix d
  | .srl_mIXd_A d => rotIdxCopy .srl .ix .a d
  | .bit_0_mIXd_z0 d => bitIdx .f0 .ix .f0 d
  | .bit_0_mIXd_z1 d => bitIdx .f0 .ix .f1 d
  | .bit_0_mIXd_z2 d => bitIdx .f0 .ix .f2 d
  | .bit_0_mIXd_z3 d => bitIdx .f0 .ix .f3 d
  | .bit_0_mIXd_z4 d => bitIdx .f0 .ix .f4 d
  | .bit_0_mIXd_z5 d => bitIdx .f0 .ix .f5 d
  | .bit_0_mIXd_z6 d => bitIdx .f0 .ix .f6 d
  | .bit_0_mIXd_z7 d => bitIdx .f0 .ix .f7 d
  | .bit_1_mIXd_z0 d => bitIdx .f1 .ix .f0 d
  | .bit_1_mIXd_z1 d => bitIdx .f1 .ix .f1 d
  | .bit_1_mIXd_z2 d => bitIdx .f1 .ix .f2 d
  | .bit_1_mIXd_z3 d => bitIdx .f1 .ix .f3 d
  | .bit_1_mIXd_z4 d => bitIdx .f1 .ix .f4 d
  | .bit_1_mIXd_z5 d => bitIdx .f1 .ix .f5 d
  | .bit_1_mIXd_z6 d => bitIdx .f1 .ix .f6 d
  | .bit_1_mIXd_z7 d => bitIdx .f1 .ix .f7 d
  | .bit_2_mIXd_z0 d => bitIdx .f2 .ix .f0 d
  | .bit_2_mIXd_z1 d => bitIdx .f2 .ix .f1 d
  | .bit_2_mIXd_z2 d => bitIdx .f2 .ix .f2 d
  | .bit_2_mIXd_z3 d => bitIdx .f2 .ix .f3 d
  | .bit_2_mIXd_z4 d => bitIdx .f2 .ix .f4 d
  | .bit_2_mIXd_z5 d => bitIdx .f2 .ix .f5 d
  | .bit_2_mIXd_z6 d => bitIdx .f2 .ix .f6 d
  | .bit_2_mIXd_z7 d => bitIdx .f2 .ix .f7 d
  | .bit_3_mIXd_z0 d => bitIdx .f3 .ix .f0 d
  | .bit_3_mIXd_z1 d => bitIdx .f3 .ix .f1 d
  | .bit_3_mIXd_z2 d => bitIdx .f3 .ix .f2 d
  | .bit_3_mIXd_z3 d => bitIdx .f3 .ix .f3 d
  | .bit_3_mIXd_z4 d => bitIdx .f3 .ix .f4 d
  | .bit_3_mIXd_z5 d => bitIdx .f3 .ix .f5 d
  | .bit_3_mIXd_z6 d => bitIdx .f3 .ix .f6 d
  | .bit_3_mIXd_z7 d => bitIdx .f3 .ix .f7 d
  | .bit_4_mIXd_z0 d => bitIdx .f4 .ix .f0 d
  | .bit_4_mIXd_z1 d => bitIdx .f4 .ix .f1 d
  | .bit_4_mIXd_z2 d => bitIdx .f4 .ix .f2 d
  | .bit_4_mIXd_z3 d => bitIdx .f4 .ix .f3 d
  | .bit_4_mIXd_z4 d => bitIdx .f4 .ix .f4 d
  | .bit_4_mIXd_z5 d => bitIdx .f4 .ix .f5 d
  | .bit_4_mIXd_z6 d => bitIdx .f4 .ix .f6 d
  | .bit_4_mIXd_z7 d => bitIdx .f4 .ix .f7 d
  | .bit_5_mIXd_z0 d => bitIdx .f5 .ix .f0 d
  | .bit_5_mIXd_z1 d => bitIdx .f5 .ix .f1 d
  | .bit_5_mIXd_z2 d => bitIdx .f5 .ix .f2 d
  | .bit_5_mIXd_z3 d => bitIdx .f5 .ix .f3 d
  | .bit_5_mIXd_z4 d => bitIdx .f5 .ix .f4 d
  | .bit_5_mIXd_z5 d => bitIdx .f5 .ix .f5 d
  | .bit_5_mIXd_z6 d => bitIdx .f5 .ix .f6 d
  | .bit_5_mIXd_z7 d => bitIdx .f5 .ix .f7 d
  | .bit_6_mIXd_z0 d => bitIdx .f6 .ix .f0 d
  | .bit_6_mIXd_z1 d => bitIdx .f6 .ix .f1 d
  | .bit_6_mIXd_z2 d => bitIdx .f6 .ix .f2 d
  | .bit_6_mIXd_z3 d => bitIdx .f6 .ix .f3 d
  | .bit_6_mIXd_z4 d => bitIdx .f6 .ix .f4 d
  | .bit_6_mIXd_z5 d => bitIdx .f6 .ix .f5 d
  | .bit_6_mIXd_z6 d => bitIdx .f6 .ix .f6 d
  | .bit_6_mIXd_z7 d => bitIdx .f6 .ix .f7 d
  | .bit_7_mIXd_z0 d => bitIdx .f7 .ix .f0 d
  | .bit_7_mIXd_z1 d => bitIdx .f7 .ix .f1 d
  | .bit_7_mIXd_z2 d => bitIdx .f7 .ix .f2 d
  | .bit_7_mIXd_z3 d => bitIdx .f7 .ix .f3 d
  | .bit_7_mIXd_z4 d => bitIdx .f7 .ix .f4 d
  | .bit_7_mIXd_z5 d => bitIdx .f7 .ix .f5 d
  | .bit_7_mIXd_z6 d => bitIdx .f7 .ix .f6 d
  | .bit_7_mIXd_z7 d => bitIdx .f7 .ix .f7 d
  | .res_0_mIXd_B d => resBitIdxCopy .f0 .ix .b d
  | .res_0_mIXd_C d => resBitIdxCopy .f0 .ix .c d
  | .res_0_mIXd_D d => resBitIdxCopy .f0 .ix .d d
  | .res_0_mIXd_E d => resBitIdxCopy .f0 .ix .e d
  | .res_0_mIXd_H d => resBitIdxCopy .f0 .ix .h d
  | .res_0_mIXd_L d => resBitIdxCopy .f0 .ix .l d
  | .res_0_mIXd d => resBitIdx .f0 .ix d
  | .res_0_mIXd_A d => resBitIdxCopy .f0 .ix .a d
  | .res_1_mIXd_B d => resBitIdxCopy .f1 .ix .b d
  | .res_1_mIXd_C d => resBitIdxCopy .f1 .ix .c d
  | .res_1_mIXd_D d => resBitIdxCopy .f1 .ix .d d
  | .res_1_mIXd_E d => resBitIdxCopy .f1 .ix .e d
  | .res_1_mIXd_H d => resBitIdxCopy .f1 .ix .h d
  | .res_1_mIXd_L d => resBitIdxCopy .f1 .ix .l d
  | .res_1_mIXd d => resBitIdx .f1 .ix d
  | .res_1_mIXd_A d => resBitIdxCopy .f1 .ix .a d
  | .res_2_mIXd_B d => resBitIdxCopy .f2 .ix .b d
  | .res_2_mIXd_C d => resBitIdxCopy .f2 .ix .c d
  | .res_2_mIXd_D d => resBitIdxCopy .f2 .ix .d d
  | .res_2_mIXd_E d => resBitIdxCopy .f2 .ix .e d
  | .res_2_mIXd_H d => resBitIdxCopy .f2 .ix .h d
  | .res_2_mIXd_L d => resBitIdxCopy .f2 .ix .l d
  | .res_2_mIXd d => resBitIdx .f2 .ix d
  | .res_2_mIXd_A d => resBitIdxCopy .f2 .ix .a d
  | .res_3_mIXd_B d => resBitIdxCopy .f3 .ix .b d
  | .res_3_mIXd_C d => resBitIdxCopy .f3 .ix .c d
  | .res_3_mIXd_D d => resBitIdxCopy .f3 .ix .d d
  | .res_3_mIXd_E d => resBitIdxCopy .f3 .ix .e d
  | .res_3_mIXd_H d => resBitIdxCopy .f3 .ix .h d
  | .res_3_mIXd_L d => resBitIdxCopy .f3 .ix .l d
  | .res_3_mIXd d => resBitIdx .f3 .ix d
  | .res_3_mIXd_A d => resBitIdxCopy .f3 .ix .a d
  | .res_4_mIXd_B d => resBitIdxCopy .f4 .ix .b d
  | .res_4_mIXd_C d => resBitIdxCopy .f4 .ix .c d
  | .res_4_mIXd_D d => resBitIdxCopy .f4 .ix .d d
  | .res_4_mIXd_E d => resBitIdxCopy .f4 .ix .e d
  | .res_4_mIXd_H d => resBitIdxCopy .f4 .ix .h d
  | .res_4_mIXd_L d => resBitIdxCopy .f4 .ix .l d
  | .res_4_mIXd d => resBitIdx .f4 .ix d
  | .res_4_mIXd_A d => resBitIdxCopy .f4 .ix .a d
  | .res_5_mIXd_B d => resBitIdxCopy .f5 .ix .b d
  | .res_5_mIXd_C d => resBitIdxCopy .f5 .ix .c d
  | .res_5_mIXd_D d => resBitIdxCopy .f5 .ix .d d
  | .res_5_mIXd_E d => resBitIdxCopy .f5 .ix .e d
  | .res_5_mIXd_H d => resBitIdxCopy .f5 .ix .h d
  | .res_5_mIXd_L d => resBitIdxCopy .f5 .ix .l d
  | .res_5_mIXd d => resBitIdx .f5 .ix d
  | .res_5_mIXd_A d => resBitIdxCopy .f5 .ix .a d
  | .res_6_mIXd_B d => resBitIdxCopy .f6 .ix .b d
  | .res_6_mIXd_C d => resBitIdxCopy .f6 .ix .c d
  | .res_6_mIXd_D d => resBitIdxCopy .f6 .ix .d d
  | .res_6_mIXd_E d => resBitIdxCopy .f6 .ix .e d
  | .res_6_mIXd_H d => resBitIdxCopy .f6 .ix .h d
  | .res_6_mIXd_L d => resBitIdxCopy .f6 .ix .l d
  | .res_6_mIXd d => resBitIdx .f6 .ix d
  | .res_6_mIXd_A d => resBitIdxCopy .f6 .ix .a d
  | .res_7_mIXd_B d => resBitIdxCopy .f7 .ix .b d
  | .res_7_mIXd_C d => resBitIdxCopy .f7 .ix .c d
  | .res_7_mIXd_D d => resBitIdxCopy .f7 .ix .d d
  | .res_7_mIXd_E d => resBitIdxCopy .f7 .ix .e d
  | .res_7_mIXd_H d => resBitIdxCopy .f7 .ix .h d
  | .res_7_mIXd_L d => resBitIdxCopy .f7 .ix .l d
  | .res_7_mIXd d => resBitIdx .f7 .ix d
  | .res_7_mIXd_A d => resBitIdxCopy .f7 .ix .a d
  | .set_0_mIXd_B d => setBitIdxCopy .f0 .ix .b d
  | .set_0_mIXd_C d => setBitIdxCopy .f0 .ix .c d
  | .set_0_mIXd_D d => setBitIdxCopy .f0 .ix .d d
  | .set_0_mIXd_E d => setBitIdxCopy .f0 .ix .e d
  | .set_0_mIXd_H d => setBitIdxCopy .f0 .ix .h d
  | .set_0_mIXd_L d => setBitIdxCopy .f0 .ix .l d
  | .set_0_mIXd d => setBitIdx .f0 .ix d
  | .set_0_mIXd_A d => setBitIdxCopy .f0 .ix .a d
  | .set_1_mIXd_B d => setBitIdxCopy .f1 .ix .b d
  | .set_1_mIXd_C d => setBitIdxCopy .f1 .ix .c d
  | .set_1_mIXd_D d => setBitIdxCopy .f1 .ix .d d
  | .set_1_mIXd_E d => setBitIdxCopy .f1 .ix .e d
  | .set_1_mIXd_H d => setBitIdxCopy .f1 .ix .h d
  | .set_1_mIXd_L d => setBitIdxCopy .f1 .ix .l d
  | .set_1_mIXd d => setBitIdx .f1 .ix d
  | .set_1_mIXd_A d => setBitIdxCopy .f1 .ix .a d
  | .set_2_mIXd_B d => setBitIdxCopy .f2 .ix .b d
  | .set_2_mIXd_C d => setBitIdxCopy .f2 .ix .c d
  | .set_2_mIXd_D d => setBitIdxCopy .f2 .ix .d d
  | .set_2_mIXd_E d => setBitIdxCopy .f2 .ix .e d
  | .set_2_mIXd_H d => setBitIdxCopy .f2 .ix .h d
  | .set_2_mIXd_L d => setBitIdxCopy .f2 .ix .l d
  | .set_2_mIXd d => setBitIdx .f2 .ix d
  | .set_2_mIXd_A d => setBitIdxCopy .f2 .ix .a d
  | .set_3_mIXd_B d => setBitIdxCopy .f3 .ix .b d
  | .set_3_mIXd_C d => setBitIdxCopy .f3 .ix .c d
  | .set_3_mIXd_D d => setBitIdxCopy .f3 .ix .d d
  | .set_3_mIXd_E d => setBitIdxCopy .f3 .ix .e d
  | .set_3_mIXd_H d => setBitIdxCopy .f3 .ix .h d
  | .set_3_mIXd_L d => setBitIdxCopy .f3 .ix .l d
  | .set_3_mIXd d => setBitIdx .f3 .ix d
  | .set_3_mIXd_A d => setBitIdxCopy .f3 .ix .a d
  | .set_4_mIXd_B d => setBitIdxCopy .f4 .ix .b d
  | .set_4_mIXd_C d => setBitIdxCopy .f4 .ix .c d
  | .set_4_mIXd_D d => setBitIdxCopy .f4 .ix .d d
  | .set_4_mIXd_E d => setBitIdxCopy .f4 .ix .e d
  | .set_4_mIXd_H d => setBitIdxCopy .f4 .ix .h d
  | .set_4_mIXd_L d => setBitIdxCopy .f4 .ix .l d
  | .set_4_mIXd d => setBitIdx .f4 .ix d
  | .set_4_mIXd_A d => setBitIdxCopy .f4 .ix .a d
  | .set_5_mIXd_B d => setBitIdxCopy .f5 .ix .b d
  | .set_5_mIXd_C d => setBitIdxCopy .f5 .ix .c d
  | .set_5_mIXd_D d => setBitIdxCopy .f5 .ix .d d
  | .set_5_mIXd_E d => setBitIdxCopy .f5 .ix .e d
  | .set_5_mIXd_H d => setBitIdxCopy .f5 .ix .h d
  | .set_5_mIXd_L d => setBitIdxCopy .f5 .ix .l d
  | .set_5_mIXd d => setBitIdx .f5 .ix d
  | .set_5_mIXd_A d => setBitIdxCopy .f5 .ix .a d
  | .set_6_mIXd_B d => setBitIdxCopy .f6 .ix .b d
  | .set_6_mIXd_C d => setBitIdxCopy .f6 .ix .c d
  | .set_6_mIXd_D d => setBitIdxCopy .f6 .ix .d d
  | .set_6_mIXd_E d => setBitIdxCopy .f6 .ix .e d
  | .set_6_mIXd_H d => setBitIdxCopy .f6 .ix .h d
  | .set_6_mIXd_L d => setBitIdxCopy .f6 .ix .l d
  | .set_6_mIXd d => setBitIdx .f6 .ix d
  | .set_6_mIXd_A d => setBitIdxCopy .f6 .ix .a d
  | .set_7_mIXd_B d => setBitIdxCopy .f7 .ix .b d
  | .set_7_mIXd_C d => setBitIdxCopy .f7 .ix .c d
  | .set_7_mIXd_D d => setBitIdxCopy .f7 .ix .d d
  | .set_7_mIXd_E d => setBitIdxCopy .f7 .ix .e d
  | .set_7_mIXd_H d => setBitIdxCopy .f7 .ix .h d
  | .set_7_mIXd_L d => setBitIdxCopy .f7 .ix .l d
  | .set_7_mIXd d => setBitIdx .f7 .ix d
  | .set_7_mIXd_A d => setBitIdxCopy .f7 .ix .a d
  | .add_IY_BC => addIdxPair .iy .bc
  | .add_IY_DE => addIdxPair .iy .de
  | .ld_IY_nn nn => ldIdxImm16 .iy nn
  | .ld_mnn_IY nn => ldMemIdx .iy nn
  | .inc_IY => incIdx16 .iy
  | .inc_IYH => incHalf .iy .high
  | .dec_IYH => decHalf .iy .high
  | .ld_IYH_n n => ldHalfImm .iy .high n
  | .add_IY_IY => addIdxPair .iy .self
  | .ld_IY_mnn nn => ldIdxMem .iy nn
  | .dec_IY => decIdx16 .iy
  | .inc_IYL => incHalf .iy .low
  | .dec_IYL => decHalf .iy .low
  | .ld_IYL_n n => ldHalfImm .iy .low n
  | .inc_mIYd d => incIdx .iy d
  | .dec_mIYd d => decIdx .iy d
  | .ld_mIYd_n d n => ldIdxImm .iy d n
  | .add_IY_SP => addIdxPair .iy .sp
  | .ld_B_IYH => ldRegHalf .b .iy .high
  | .ld_B_IYL => ldRegHalf .b .iy .low
  | .ld_B_mIYd d => ldRegIdx .b .iy d
  | .ld_C_IYH => ldRegHalf .c .iy .high
  | .ld_C_IYL => ldRegHalf .c .iy .low
  | .ld_C_mIYd d => ldRegIdx .c .iy d
  | .ld_D_IYH => ldRegHalf .d .iy .high
  | .ld_D_IYL => ldRegHalf .d .iy .low
  | .ld_D_mIYd d => ldRegIdx .d .iy d
  | .ld_E_IYH => ldRegHalf .e .iy .high
  | .ld_E_IYL => ldRegHalf .e .iy .low
  | .ld_E_mIYd d => ldRegIdx .e .iy d
  | .ld_IYH_B => ldHalfReg .iy .high .b
  | .ld_IYH_C => ldHalfReg .iy .high .c
  | .ld_IYH_D => ldHalfReg .iy .high .d
  | .ld_IYH_E => ldHalfReg .iy .high .e
  | .ld_IYH_IYH => ldHalfHalf .iy .high .high
  | .ld_IYH_IYL => ldHalfHalf .iy .high .low
  | .ld_H_mIYd d => ldRegIdx .h .iy d
  | .ld_IYH_A => ldHalfReg .iy .high .a
  | .ld_IYL_B => ldHalfReg .iy .low .b
  | .ld_IYL_C => ldHalfReg .iy .low .c
  | .ld_IYL_D => ldHalfReg .iy .low .d
  | .ld_IYL_E => ldHalfReg .iy .low .e
  | .ld_IYL_IYH => ldHalfHalf .iy .low .high
  | .ld_IYL_IYL => ldHalfHalf .iy .low .low
  | .ld_L_mIYd d => ldRegIdx .l .iy d
  | .ld_IYL_A => ldHalfReg .iy .low .a
  | .ld_mIYd_B d => ldIdxReg .iy .b d
  | .ld_mIYd_C d => ldIdxReg .iy .c d
  | .ld_mIYd_D d => ldIdxReg .iy .d d
  | .ld_mIYd_E d => ldIdxReg .iy .e d
  | .ld_mIYd_H d => ldIdxReg .iy .h d
  | .ld_mIYd_L d => ldIdxReg .iy .l d
  | .ld_mIYd_A d => ldIdxReg .iy .a d
  | .ld_A_IYH => ldRegHalf .a .iy .high
  | .ld_A_IYL => ldRegHalf .a .iy .low
  | .ld_A_mIYd d => ldRegIdx .a .iy d
  | .add_A_IYH => aluHalf .add .iy .high
  | .add_A_IYL => aluHalf .add .iy .low
  | .add_A_mIYd d => aluIdx .add .iy d
  | .adc_A_IYH => aluHalf .adc .iy .high
  | .adc_A_IYL => aluHalf .adc .iy .low
  | .adc_A_mIYd d => aluIdx .adc .iy d
  | .sub_IYH => aluHalf .sub .iy .high
  | .sub_IYL => aluHalf .sub .iy .low
  | .sub_mIYd d => aluIdx .sub .iy d
  | .sbc_A_IYH => aluHalf .sbc .iy .high
  | .sbc_A_IYL => aluHalf .sbc .iy .low
  | .sbc_A_mIYd d => aluIdx .sbc .iy d
  | .and_IYH => aluHalf .and .iy .high
  | .and_IYL => aluHalf .and .iy .low
  | .and_mIYd d => aluIdx .and .iy d
  | .xor_IYH => aluHalf .xor .iy .high
  | .xor_IYL => aluHalf .xor .iy .low
  | .xor_mIYd d => aluIdx .xor .iy d
  | .or_IYH => aluHalf .or .iy .high
  | .or_IYL => aluHalf .or .iy .low
  | .or_mIYd d => aluIdx .or .iy d
  | .cp_IYH => aluHalf .cp .iy .high
  | .cp_IYL => aluHalf .cp .iy .low
  | .cp_mIYd d => aluIdx .cp .iy d
  | .pop_IY => popIdx .iy
  | .ex_mSP_IY => exSpIdx .iy
  | .push_IY => pushIdx .iy
  | .jp_mIY => jpIdx .iy
  | .ld_SP_IY => ldSpIdx .iy
  | .rlc_mIYd_B d => rotIdxCopy .rlc .iy .b d
  | .rlc_mIYd_C d => rotIdxCopy .rlc .iy .c d
  | .rlc_mIYd_D d => rotIdxCopy .rlc .iy .d d
  | .rlc_mIYd_E d => rotIdxCopy .rlc .iy .e d
  | .rlc_mIYd_H d => rotIdxCopy .rlc .iy .h d
  | .rlc_mIYd_L d => rotIdxCopy .rlc .iy .l d
  | .rlc_mIYd d => rotIdx .rlc .iy d
  | .rlc_mIYd_A d => rotIdxCopy .rlc .iy .a d
  | .rrc_mIYd_B d => rotIdxCopy .rrc .iy .b d
  | .rrc_mIYd_C d => rotIdxCopy .rrc .iy .c d
  | .rrc_mIYd_D d => rotIdxCopy .rrc .iy .d d
  | .rrc_mIYd_E d => rotIdxCopy .rrc .iy .e d
  | .rrc_mIYd_H d => rotIdxCopy .rrc .iy .h d
  | .rrc_mIYd_L d => rotIdxCopy .rrc .iy .l d
  | .rrc_mIYd d => rotIdx .rrc .iy d
  | .rrc_mIYd_A d => rotIdxCopy .rrc .iy .a d
  | .rl_mIYd_B d => rotIdxCopy .rl .iy .b d
  | .rl_mIYd_C d => rotIdxCopy .rl .iy .c d
  | .rl_mIYd_D d => rotIdxCopy .rl .iy .d d
  | .rl_mIYd_E d => rotIdxCopy .rl .iy .e d
  | .rl_mIYd_H d => rotIdxCopy .rl .iy .h d
  | .rl_mIYd_L d => rotIdxCopy .rl .iy .l d
  | .rl_mIYd d => rotIdx .rl .iy d
  | .rl_mIYd_A d => rotIdxCopy .rl .iy .a d
  | .rr_mIYd_B d => rotIdxCopy .rr .iy .b d
  | .rr_mIYd_C d => rotIdxCopy .rr .iy .c d
  | .rr_mIYd_D d => rotIdxCopy .rr .iy .d d
  | .rr_mIYd_E d => rotIdxCopy .rr .iy .e d
  | .rr_mIYd_H d => rotIdxCopy .rr .iy .h d
  | .rr_mIYd_L d => rotIdxCopy .rr .iy .l d
  | .rr_mIYd d => rotIdx .rr .iy d
  | .rr_mIYd_A d => rotIdxCopy .rr .iy .a d
  | .sla_mIYd_B d => rotIdxCopy .sla .iy .b d
  | .sla_mIYd_C d => rotIdxCopy .sla .iy .c d
  | .sla_mIYd_D d => rotIdxCopy .sla .iy .d d
  | .sla_mIYd_E d => rotIdxCopy .sla .iy .e d
  | .sla_mIYd_H d => rotIdxCopy .sla .iy .h d
  | .sla_mIYd_L d => rotIdxCopy .sla .iy .l d
  | .sla_mIYd d => rotIdx .sla .iy d
  | .sla_mIYd_A d => rotIdxCopy .sla .iy .a d
  | .sra_mIYd_B d => rotIdxCopy .sra .iy .b d
  | .sra_mIYd_C d => rotIdxCopy .sra .iy .c d
  | .sra_mIYd_D d => rotIdxCopy .sra .iy .d d
  | .sra_mIYd_E d => rotIdxCopy .sra .iy .e d
  | .sra_mIYd_H d => rotIdxCopy .sra .iy .h d
  | .sra_mIYd_L d => rotIdxCopy .sra .iy .l d
  | .sra_mIYd d => rotIdx .sra .iy d
  | .sra_mIYd_A d => rotIdxCopy .sra .iy .a d
  | .sll_mIYd_B d => rotIdxCopy .sll .iy .b d
  | .sll_mIYd_C d => rotIdxCopy .sll .iy .c d
  | .sll_mIYd_D d => rotIdxCopy .sll .iy .d d
  | .sll_mIYd_E d => rotIdxCopy .sll .iy .e d
  | .sll_mIYd_H d => rotIdxCopy .sll .iy .h d
  | .sll_mIYd_L d => rotIdxCopy .sll .iy .l d
  | .sll_mIYd d => rotIdx .sll .iy d
  | .sll_mIYd_A d => rotIdxCopy .sll .iy .a d
  | .srl_mIYd_B d => rotIdxCopy .srl .iy .b d
  | .srl_mIYd_C d => rotIdxCopy .srl .iy .c d
  | .srl_mIYd_D d => rotIdxCopy .srl .iy .d d
  | .srl_mIYd_E d => rotIdxCopy .srl .iy .e d
  | .srl_mIYd_H d => rotIdxCopy .srl .iy .h d
  | .srl_mIYd_L d => rotIdxCopy .srl .iy .l d
  | .srl_mIYd d => rotIdx .srl .iy d
  | .srl_mIYd_A d => rotIdxCopy .srl .iy .a d
  | .bit_0_mIYd_z0 d => bitIdx .f0 .iy .f0 d
  | .bit_0_mIYd_z1 d => bitIdx .f0 .iy .f1 d
  | .bit_0_mIYd_z2 d => bitIdx .f0 .iy .f2 d
  | .bit_0_mIYd_z3 d => bitIdx .f0 .iy .f3 d
  | .bit_0_mIYd_z4 d => bitIdx .f0 .iy .f4 d
  | .bit_0_mIYd_z5 d => bitIdx .f0 .iy .f5 d
  | .bit_0_mIYd_z6 d => bitIdx .f0 .iy .f6 d
  | .bit_0_mIYd_z7 d => bitIdx .f0 .iy .f7 d
  | .bit_1_mIYd_z0 d => bitIdx .f1 .iy .f0 d
  | .bit_1_mIYd_z1 d => bitIdx .f1 .iy .f1 d
  | .bit_1_mIYd_z2 d => bitIdx .f1 .iy .f2 d
  | .bit_1_mIYd_z3 d => bitIdx .f1 .iy .f3 d
  | .bit_1_mIYd_z4 d => bitIdx .f1 .iy .f4 d
  | .bit_1_mIYd_z5 d => bitIdx .f1 .iy .f5 d
  | .bit_1_mIYd_z6 d => bitIdx .f1 .iy .f6 d
  | .bit_1_mIYd_z7 d => bitIdx .f1 .iy .f7 d
  | .bit_2_mIYd_z0 d => bitIdx .f2 .iy .f0 d
  | .bit_2_mIYd_z1 d => bitIdx .f2 .iy .f1 d
  | .bit_2_mIYd_z2 d => bitIdx .f2 .iy .f2 d
  | .bit_2_mIYd_z3 d => bitIdx .f2 .iy .f3 d
  | .bit_2_mIYd_z4 d => bitIdx .f2 .iy .f4 d
  | .bit_2_mIYd_z5 d => bitIdx .f2 .iy .f5 d
  | .bit_2_mIYd_z6 d => bitIdx .f2 .iy .f6 d
  | .bit_2_mIYd_z7 d => bitIdx .f2 .iy .f7 d
  | .bit_3_mIYd_z0 d => bitIdx .f3 .iy .f0 d
  | .bit_3_mIYd_z1 d => bitIdx .f3 .iy .f1 d
  | .bit_3_mIYd_z2 d => bitIdx .f3 .iy .f2 d
  | .bit_3_mIYd_z3 d => bitIdx .f3 .iy .f3 d
  | .bit_3_mIYd_z4 d => bitIdx .f3 .iy .f4 d
  | .bit_3_mIYd_z5 d => bitIdx .f3 .iy .f5 d
  | .bit_3_mIYd_z6 d => bitIdx .f3 .iy .f6 d
  | .bit_3_mIYd_z7 d => bitIdx .f3 .iy .f7 d
  | .bit_4_mIYd_z0 d => bitIdx .f4 .iy .f0 d
  | .bit_4_mIYd_z1 d => bitIdx .f4 .iy .f1 d
  | .bit_4_mIYd_z2 d => bitIdx .f4 .iy .f2 d
  | .bit_4_mIYd_z3 d => bitIdx .f4 .iy .f3 d
  | .bit_4_mIYd_z4 d => bitIdx .f4 .iy .f4 d
  | .bit_4_mIYd_z5 d => bitIdx .f4 .iy .f5 d
  | .bit_4_mIYd_z6 d => bitIdx .f4 .iy .f6 d
  | .bit_4_mIYd_z7 d => bitIdx .f4 .iy .f7 d
  | .bit_5_mIYd_z0 d => bitIdx .f5 .iy .f0 d
  | .bit_5_mIYd_z1 d => bitIdx .f5 .iy .f1 d
  | .bit_5_mIYd_z2 d => bitIdx .f5 .iy .f2 d
  | .bit_5_mIYd_z3 d => bitIdx .f5 .iy .f3 d
  | .bit_5_mIYd_z4 d => bitIdx .f5 .iy .f4 d
  | .bit_5_mIYd_z5 d => bitIdx .f5 .iy .f5 d
  | .bit_5_mIYd_z6 d => bitIdx .f5 .iy .f6 d
  | .bit_5_mIYd_z7 d => bitIdx .f5 .iy .f7 d
  | .bit_6_mIYd_z0 d => bitIdx .f6 .iy .f0 d
  | .bit_6_mIYd_z1 d => bitIdx .f6 .iy .f1 d
  | .bit_6_mIYd_z2 d => bitIdx .f6 .iy .f2 d
  | .bit_6_mIYd_z3 d => bitIdx .f6 .iy .f3 d
  | .bit_6_mIYd_z4 d => bitIdx .f6 .iy .f4 d
  | .bit_6_mIYd_z5 d => bitIdx .f6 .iy .f5 d
  | .bit_6_mIYd_z6 d => bitIdx .f6 .iy .f6 d
  | .bit_6_mIYd_z7 d => bitIdx .f6 .iy .f7 d
  | .bit_7_mIYd_z0 d => bitIdx .f7 .iy .f0 d
  | .bit_7_mIYd_z1 d => bitIdx .f7 .iy .f1 d
  | .bit_7_mIYd_z2 d => bitIdx .f7 .iy .f2 d
  | .bit_7_mIYd_z3 d => bitIdx .f7 .iy .f3 d
  | .bit_7_mIYd_z4 d => bitIdx .f7 .iy .f4 d
  | .bit_7_mIYd_z5 d => bitIdx .f7 .iy .f5 d
  | .bit_7_mIYd_z6 d => bitIdx .f7 .iy .f6 d
  | .bit_7_mIYd_z7 d => bitIdx .f7 .iy .f7 d
  | .res_0_mIYd_B d => resBitIdxCopy .f0 .iy .b d
  | .res_0_mIYd_C d => resBitIdxCopy .f0 .iy .c d
  | .res_0_mIYd_D d => resBitIdxCopy .f0 .iy .d d
  | .res_0_mIYd_E d => resBitIdxCopy .f0 .iy .e d
  | .res_0_mIYd_H d => resBitIdxCopy .f0 .iy .h d
  | .res_0_mIYd_L d => resBitIdxCopy .f0 .iy .l d
  | .res_0_mIYd d => resBitIdx .f0 .iy d
  | .res_0_mIYd_A d => resBitIdxCopy .f0 .iy .a d
  | .res_1_mIYd_B d => resBitIdxCopy .f1 .iy .b d
  | .res_1_mIYd_C d => resBitIdxCopy .f1 .iy .c d
  | .res_1_mIYd_D d => resBitIdxCopy .f1 .iy .d d
  | .res_1_mIYd_E d => resBitIdxCopy .f1 .iy .e d
  | .res_1_mIYd_H d => resBitIdxCopy .f1 .iy .h d
  | .res_1_mIYd_L d => resBitIdxCopy .f1 .iy .l d
  | .res_1_mIYd d => resBitIdx .f1 .iy d
  | .res_1_mIYd_A d => resBitIdxCopy .f1 .iy .a d
  | .res_2_mIYd_B d => resBitIdxCopy .f2 .iy .b d
  | .res_2_mIYd_C d => resBitIdxCopy .f2 .iy .c d
  | .res_2_mIYd_D d => resBitIdxCopy .f2 .iy .d d
  | .res_2_mIYd_E d => resBitIdxCopy .f2 .iy .e d
  | .res_2_mIYd_H d => resBitIdxCopy .f2 .iy .h d
  | .res_2_mIYd_L d => resBitIdxCopy .f2 .iy .l d
  | .res_2_mIYd d => resBitIdx .f2 .iy d
  | .res_2_mIYd_A d => resBitIdxCopy .f2 .iy .a d
  | .res_3_mIYd_B d => resBitIdxCopy .f3 .iy .b d
  | .res_3_mIYd_C d => resBitIdxCopy .f3 .iy .c d
  | .res_3_mIYd_D d => resBitIdxCopy .f3 .iy .d d
  | .res_3_mIYd_E d => resBitIdxCopy .f3 .iy .e d
  | .res_3_mIYd_H d => resBitIdxCopy .f3 .iy .h d
  | .res_3_mIYd_L d => resBitIdxCopy .f3 .iy .l d
  | .res_3_mIYd d => resBitIdx .f3 .iy d
  | .res_3_mIYd_A d => resBitIdxCopy .f3 .iy .a d
  | .res_4_mIYd_B d => resBitIdxCopy .f4 .iy .b d
  | .res_4_mIYd_C d => resBitIdxCopy .f4 .iy .c d
  | .res_4_mIYd_D d => resBitIdxCopy .f4 .iy .d d
  | .res_4_mIYd_E d => resBitIdxCopy .f4 .iy .e d
  | .res_4_mIYd_H d => resBitIdxCopy .f4 .iy .h d
  | .res_4_mIYd_L d => resBitIdxCopy .f4 .iy .l d
  | .res_4_mIYd d => resBitIdx .f4 .iy d
  | .res_4_mIYd_A d => resBitIdxCopy .f4 .iy .a d
  | .res_5_mIYd_B d => resBitIdxCopy .f5 .iy .b d
  | .res_5_mIYd_C d => resBitIdxCopy .f5 .iy .c d
  | .res_5_mIYd_D d => resBitIdxCopy .f5 .iy .d d
  | .res_5_mIYd_E d => resBitIdxCopy .f5 .iy .e d
  | .res_5_mIYd_H d => resBitIdxCopy .f5 .iy .h d
  | .res_5_mIYd_L d => resBitIdxCopy .f5 .iy .l d
  | .res_5_mIYd d => resBitIdx .f5 .iy d
  | .res_5_mIYd_A d => resBitIdxCopy .f5 .iy .a d
  | .res_6_mIYd_B d => resBitIdxCopy .f6 .iy .b d
  | .res_6_mIYd_C d => resBitIdxCopy .f6 .iy .c d
  | .res_6_mIYd_D d => resBitIdxCopy .f6 .iy .d d
  | .res_6_mIYd_E d => resBitIdxCopy .f6 .iy .e d
  | .res_6_mIYd_H d => resBitIdxCopy .f6 .iy .h d
  | .res_6_mIYd_L d => resBitIdxCopy .f6 .iy .l d
  | .res_6_mIYd d => resBitIdx .f6 .iy d
  | .res_6_mIYd_A d => resBitIdxCopy .f6 .iy .a d
  | .res_7_mIYd_B d => resBitIdxCopy .f7 .iy .b d
  | .res_7_mIYd_C d => resBitIdxCopy .f7 .iy .c d
  | .res_7_mIYd_D d => resBitIdxCopy .f7 .iy .d d
  | .res_7_mIYd_E d => resBitIdxCopy .f7 .iy .e d
  | .res_7_mIYd_H d => resBitIdxCopy .f7 .iy .h d
  | .res_7_mIYd_L d => resBitIdxCopy .f7 .iy .l d
  | .res_7_mIYd d => resBitIdx .f7 .iy d
  | .res_7_mIYd_A d => resBitIdxCopy .f7 .iy .a d
  | .set_0_mIYd_B d => setBitIdxCopy .f0 .iy .b d
  | .set_0_mIYd_C d => setBitIdxCopy .f0 .iy .c d
  | .set_0_mIYd_D d => setBitIdxCopy .f0 .iy .d d
  | .set_0_mIYd_E d => setBitIdxCopy .f0 .iy .e d
  | .set_0_mIYd_H d => setBitIdxCopy .f0 .iy .h d
  | .set_0_mIYd_L d => setBitIdxCopy .f0 .iy .l d
  | .set_0_mIYd d => setBitIdx .f0 .iy d
  | .set_0_mIYd_A d => setBitIdxCopy .f0 .iy .a d
  | .set_1_mIYd_B d => setBitIdxCopy .f1 .iy .b d
  | .set_1_mIYd_C d => setBitIdxCopy .f1 .iy .c d
  | .set_1_mIYd_D d => setBitIdxCopy .f1 .iy .d d
  | .set_1_mIYd_E d => setBitIdxCopy .f1 .iy .e d
  | .set_1_mIYd_H d => setBitIdxCopy .f1 .iy .h d
  | .set_1_mIYd_L d => setBitIdxCopy .f1 .iy .l d
  | .set_1_mIYd d => setBitIdx .f1 .iy d
  | .set_1_mIYd_A d => setBitIdxCopy .f1 .iy .a d
  | .set_2_mIYd_B d => setBitIdxCopy .f2 .iy .b d
  | .set_2_mIYd_C d => setBitIdxCopy .f2 .iy .c d
  | .set_2_mIYd_D d => setBitIdxCopy .f2 .iy .d d
  | .set_2_mIYd_E d => setBitIdxCopy .f2 .iy .e d
  | .set_2_mIYd_H d => setBitIdxCopy .f2 .iy .h d
  | .set_2_mIYd_L d => setBitIdxCopy .f2 .iy .l d
  | .set_2_mIYd d => setBitIdx .f2 .iy d
  | .set_2_mIYd_A d => setBitIdxCopy .f2 .iy .a d
  | .set_3_mIYd_B d => setBitIdxCopy .f3 .iy .b d
  | .set_3_mIYd_C d => setBitIdxCopy .f3 .iy .c d
  | .set_3_mIYd_D d => setBitIdxCopy .f3 .iy .d d
  | .set_3_mIYd_E d => setBitIdxCopy .f3 .iy .e d
  | .set_3_mIYd_H d => setBitIdxCopy .f3 .iy .h d
  | .set_3_mIYd_L d => setBitIdxCopy .f3 .iy .l d
  | .set_3_mIYd d => setBitIdx .f3 .iy d
  | .set_3_mIYd_A d => setBitIdxCopy .f3 .iy .a d
  | .set_4_mIYd_B d => setBitIdxCopy .f4 .iy .b d
  | .set_4_mIYd_C d => setBitIdxCopy .f4 .iy .c d
  | .set_4_mIYd_D d => setBitIdxCopy .f4 .iy .d d
  | .set_4_mIYd_E d => setBitIdxCopy .f4 .iy .e d
  | .set_4_mIYd_H d => setBitIdxCopy .f4 .iy .h d
  | .set_4_mIYd_L d => setBitIdxCopy .f4 .iy .l d
  | .set_4_mIYd d => setBitIdx .f4 .iy d
  | .set_4_mIYd_A d => setBitIdxCopy .f4 .iy .a d
  | .set_5_mIYd_B d => setBitIdxCopy .f5 .iy .b d
  | .set_5_mIYd_C d => setBitIdxCopy .f5 .iy .c d
  | .set_5_mIYd_D d => setBitIdxCopy .f5 .iy .d d
  | .set_5_mIYd_E d => setBitIdxCopy .f5 .iy .e d
  | .set_5_mIYd_H d => setBitIdxCopy .f5 .iy .h d
  | .set_5_mIYd_L d => setBitIdxCopy .f5 .iy .l d
  | .set_5_mIYd d => setBitIdx .f5 .iy d
  | .set_5_mIYd_A d => setBitIdxCopy .f5 .iy .a d
  | .set_6_mIYd_B d => setBitIdxCopy .f6 .iy .b d
  | .set_6_mIYd_C d => setBitIdxCopy .f6 .iy .c d
  | .set_6_mIYd_D d => setBitIdxCopy .f6 .iy .d d
  | .set_6_mIYd_E d => setBitIdxCopy .f6 .iy .e d
  | .set_6_mIYd_H d => setBitIdxCopy .f6 .iy .h d
  | .set_6_mIYd_L d => setBitIdxCopy .f6 .iy .l d
  | .set_6_mIYd d => setBitIdx .f6 .iy d
  | .set_6_mIYd_A d => setBitIdxCopy .f6 .iy .a d
  | .set_7_mIYd_B d => setBitIdxCopy .f7 .iy .b d
  | .set_7_mIYd_C d => setBitIdxCopy .f7 .iy .c d
  | .set_7_mIYd_D d => setBitIdxCopy .f7 .iy .d d
  | .set_7_mIYd_E d => setBitIdxCopy .f7 .iy .e d
  | .set_7_mIYd_H d => setBitIdxCopy .f7 .iy .h d
  | .set_7_mIYd_L d => setBitIdxCopy .f7 .iy .l d
  | .set_7_mIYd d => setBitIdx .f7 .iy d
  | .set_7_mIYd_A d => setBitIdxCopy .f7 .iy .a d

end Sys2Proof
end

