-- ==== Sys2Proof/Laws/State.lean ====
section
/-! SUPPORT. What each field of State holds after each update of Machine/Ops.lean: one lemma for each
field of each update, so that no proof unfolds a record update. -/

namespace Sys2Proof.Machine.State

theorem sub_one_one (w : Word) : w - 1 - 1 = w - 2 := by bv_omega

theorem add_one_one (w : Word) : w + 1 + 1 = w + 2 := by bv_omega

/-! ## setA -/

@[simp] theorem setA_af (s : State) (v : Byte) : (s.setA v).af = withHi s.af v := rfl
@[simp] theorem setA_bc (s : State) (v : Byte) : (s.setA v).bc = s.bc := rfl
@[simp] theorem setA_de (s : State) (v : Byte) : (s.setA v).de = s.de := rfl
@[simp] theorem setA_hl (s : State) (v : Byte) : (s.setA v).hl = s.hl := rfl
@[simp] theorem setA_wz (s : State) (v : Byte) : (s.setA v).wz = s.wz := rfl
@[simp] theorem setA_af' (s : State) (v : Byte) : (s.setA v).af' = s.af' := rfl
@[simp] theorem setA_bc' (s : State) (v : Byte) : (s.setA v).bc' = s.bc' := rfl
@[simp] theorem setA_de' (s : State) (v : Byte) : (s.setA v).de' = s.de' := rfl
@[simp] theorem setA_hl' (s : State) (v : Byte) : (s.setA v).hl' = s.hl' := rfl
@[simp] theorem setA_wz' (s : State) (v : Byte) : (s.setA v).wz' = s.wz' := rfl
@[simp] theorem setA_ix (s : State) (v : Byte) : (s.setA v).ix = s.ix := rfl
@[simp] theorem setA_iy (s : State) (v : Byte) : (s.setA v).iy = s.iy := rfl
@[simp] theorem setA_sp (s : State) (v : Byte) : (s.setA v).sp = s.sp := rfl
@[simp] theorem setA_pc (s : State) (v : Byte) : (s.setA v).pc = s.pc := rfl
@[simp] theorem setA_i (s : State) (v : Byte) : (s.setA v).i = s.i := rfl
@[simp] theorem setA_r (s : State) (v : Byte) : (s.setA v).r = s.r := rfl
@[simp] theorem setA_im (s : State) (v : Byte) : (s.setA v).im = s.im := rfl
@[simp] theorem setA_iff1 (s : State) (v : Byte) : (s.setA v).iff1 = s.iff1 := rfl
@[simp] theorem setA_iff2 (s : State) (v : Byte) : (s.setA v).iff2 = s.iff2 := rfl
@[simp] theorem setA_halted (s : State) (v : Byte) : (s.setA v).halted = s.halted := rfl
@[simp] theorem setA_inv (s : State) (v : Byte) : (s.setA v).inv = s.inv := rfl
@[simp] theorem setA_eiShadow (s : State) (v : Byte) : (s.setA v).eiShadow = s.eiShadow := rfl
@[simp] theorem setA_hist (s : State) (v : Byte) : (s.setA v).hist = s.hist := rfl
@[simp] theorem setA_hidx (s : State) (v : Byte) : (s.setA v).hidx = s.hidx := rfl
@[simp] theorem setA_bus (s : State) (v : Byte) : (s.setA v).bus = s.bus := rfl
@[simp] theorem setA_params (s : State) (v : Byte) : (s.setA v).params = s.params := rfl
@[simp] theorem setA_cycles (s : State) (v : Byte) : (s.setA v).cycles = s.cycles := rfl
@[simp] theorem setA_ioLog (s : State) (v : Byte) : (s.setA v).ioLog = s.ioLog := rfl
@[simp] theorem setA_ioCount (s : State) (v : Byte) : (s.setA v).ioCount = s.ioCount := rfl
@[simp] theorem setA_ioScript (s : State) (v : Byte) : (s.setA v).ioScript = s.ioScript := rfl
@[simp] theorem setA_power (s : State) (v : Byte) : (s.setA v).power = s.power := rfl
@[simp] theorem setA_faulted (s : State) (v : Byte) : (s.setA v).faulted = s.faulted := rfl

/-! ## setFlags -/

@[simp] theorem setFlags_af (s : State) (f : Flags) :
    (s.setFlags f).af = withLo s.af f.toByte := rfl
@[simp] theorem setFlags_bc (s : State) (f : Flags) : (s.setFlags f).bc = s.bc := rfl
@[simp] theorem setFlags_de (s : State) (f : Flags) : (s.setFlags f).de = s.de := rfl
@[simp] theorem setFlags_hl (s : State) (f : Flags) : (s.setFlags f).hl = s.hl := rfl
@[simp] theorem setFlags_wz (s : State) (f : Flags) : (s.setFlags f).wz = s.wz := rfl
@[simp] theorem setFlags_af' (s : State) (f : Flags) : (s.setFlags f).af' = s.af' := rfl
@[simp] theorem setFlags_bc' (s : State) (f : Flags) : (s.setFlags f).bc' = s.bc' := rfl
@[simp] theorem setFlags_de' (s : State) (f : Flags) : (s.setFlags f).de' = s.de' := rfl
@[simp] theorem setFlags_hl' (s : State) (f : Flags) : (s.setFlags f).hl' = s.hl' := rfl
@[simp] theorem setFlags_wz' (s : State) (f : Flags) : (s.setFlags f).wz' = s.wz' := rfl
@[simp] theorem setFlags_ix (s : State) (f : Flags) : (s.setFlags f).ix = s.ix := rfl
@[simp] theorem setFlags_iy (s : State) (f : Flags) : (s.setFlags f).iy = s.iy := rfl
@[simp] theorem setFlags_sp (s : State) (f : Flags) : (s.setFlags f).sp = s.sp := rfl
@[simp] theorem setFlags_pc (s : State) (f : Flags) : (s.setFlags f).pc = s.pc := rfl
@[simp] theorem setFlags_i (s : State) (f : Flags) : (s.setFlags f).i = s.i := rfl
@[simp] theorem setFlags_r (s : State) (f : Flags) : (s.setFlags f).r = s.r := rfl
@[simp] theorem setFlags_im (s : State) (f : Flags) : (s.setFlags f).im = s.im := rfl
@[simp] theorem setFlags_iff1 (s : State) (f : Flags) : (s.setFlags f).iff1 = s.iff1 := rfl
@[simp] theorem setFlags_iff2 (s : State) (f : Flags) : (s.setFlags f).iff2 = s.iff2 := rfl
@[simp] theorem setFlags_halted (s : State) (f : Flags) : (s.setFlags f).halted = s.halted := rfl
@[simp] theorem setFlags_inv (s : State) (f : Flags) : (s.setFlags f).inv = s.inv := rfl
@[simp] theorem setFlags_eiShadow (s : State) (f : Flags) :
    (s.setFlags f).eiShadow = s.eiShadow := rfl
@[simp] theorem setFlags_hist (s : State) (f : Flags) : (s.setFlags f).hist = s.hist := rfl
@[simp] theorem setFlags_hidx (s : State) (f : Flags) : (s.setFlags f).hidx = s.hidx := rfl
@[simp] theorem setFlags_bus (s : State) (f : Flags) : (s.setFlags f).bus = s.bus := rfl
@[simp] theorem setFlags_params (s : State) (f : Flags) : (s.setFlags f).params = s.params := rfl
@[simp] theorem setFlags_cycles (s : State) (f : Flags) : (s.setFlags f).cycles = s.cycles := rfl
@[simp] theorem setFlags_ioLog (s : State) (f : Flags) : (s.setFlags f).ioLog = s.ioLog := rfl
@[simp] theorem setFlags_ioCount (s : State) (f : Flags) : (s.setFlags f).ioCount = s.ioCount := rfl
@[simp] theorem setFlags_ioScript (s : State) (f : Flags) :
    (s.setFlags f).ioScript = s.ioScript := rfl
@[simp] theorem setFlags_power (s : State) (f : Flags) : (s.setFlags f).power = s.power := rfl
@[simp] theorem setFlags_faulted (s : State) (f : Flags) : (s.setFlags f).faulted = s.faulted := rfl

/-! ## setAF -/

@[simp] theorem setAF_af (s : State) (v : Byte × Flags) :
    (s.setAF v).af = pair v.1 v.2.toByte := rfl
@[simp] theorem setAF_bc (s : State) (v : Byte × Flags) : (s.setAF v).bc = s.bc := rfl
@[simp] theorem setAF_de (s : State) (v : Byte × Flags) : (s.setAF v).de = s.de := rfl
@[simp] theorem setAF_hl (s : State) (v : Byte × Flags) : (s.setAF v).hl = s.hl := rfl
@[simp] theorem setAF_wz (s : State) (v : Byte × Flags) : (s.setAF v).wz = s.wz := rfl
@[simp] theorem setAF_af' (s : State) (v : Byte × Flags) : (s.setAF v).af' = s.af' := rfl
@[simp] theorem setAF_bc' (s : State) (v : Byte × Flags) : (s.setAF v).bc' = s.bc' := rfl
@[simp] theorem setAF_de' (s : State) (v : Byte × Flags) : (s.setAF v).de' = s.de' := rfl
@[simp] theorem setAF_hl' (s : State) (v : Byte × Flags) : (s.setAF v).hl' = s.hl' := rfl
@[simp] theorem setAF_wz' (s : State) (v : Byte × Flags) : (s.setAF v).wz' = s.wz' := rfl
@[simp] theorem setAF_ix (s : State) (v : Byte × Flags) : (s.setAF v).ix = s.ix := rfl
@[simp] theorem setAF_iy (s : State) (v : Byte × Flags) : (s.setAF v).iy = s.iy := rfl
@[simp] theorem setAF_sp (s : State) (v : Byte × Flags) : (s.setAF v).sp = s.sp := rfl
@[simp] theorem setAF_pc (s : State) (v : Byte × Flags) : (s.setAF v).pc = s.pc := rfl
@[simp] theorem setAF_i (s : State) (v : Byte × Flags) : (s.setAF v).i = s.i := rfl
@[simp] theorem setAF_r (s : State) (v : Byte × Flags) : (s.setAF v).r = s.r := rfl
@[simp] theorem setAF_im (s : State) (v : Byte × Flags) : (s.setAF v).im = s.im := rfl
@[simp] theorem setAF_iff1 (s : State) (v : Byte × Flags) : (s.setAF v).iff1 = s.iff1 := rfl
@[simp] theorem setAF_iff2 (s : State) (v : Byte × Flags) : (s.setAF v).iff2 = s.iff2 := rfl
@[simp] theorem setAF_halted (s : State) (v : Byte × Flags) : (s.setAF v).halted = s.halted := rfl
@[simp] theorem setAF_inv (s : State) (v : Byte × Flags) : (s.setAF v).inv = s.inv := rfl
@[simp] theorem setAF_eiShadow (s : State) (v : Byte × Flags) :
    (s.setAF v).eiShadow = s.eiShadow := rfl
@[simp] theorem setAF_hist (s : State) (v : Byte × Flags) : (s.setAF v).hist = s.hist := rfl
@[simp] theorem setAF_hidx (s : State) (v : Byte × Flags) : (s.setAF v).hidx = s.hidx := rfl
@[simp] theorem setAF_bus (s : State) (v : Byte × Flags) : (s.setAF v).bus = s.bus := rfl
@[simp] theorem setAF_params (s : State) (v : Byte × Flags) : (s.setAF v).params = s.params := rfl
@[simp] theorem setAF_cycles (s : State) (v : Byte × Flags) : (s.setAF v).cycles = s.cycles := rfl
@[simp] theorem setAF_ioLog (s : State) (v : Byte × Flags) : (s.setAF v).ioLog = s.ioLog := rfl
@[simp] theorem setAF_ioCount (s : State) (v : Byte × Flags) :
    (s.setAF v).ioCount = s.ioCount := rfl
@[simp] theorem setAF_ioScript (s : State) (v : Byte × Flags) :
    (s.setAF v).ioScript = s.ioScript := rfl
@[simp] theorem setAF_power (s : State) (v : Byte × Flags) : (s.setAF v).power = s.power := rfl
@[simp] theorem setAF_faulted (s : State) (v : Byte × Flags) :
    (s.setAF v).faulted = s.faulted := rfl

/-! ## setWZ -/

@[simp] theorem setWZ_af (s : State) (v : Word) : (s.setWZ v).af = s.af := rfl
@[simp] theorem setWZ_bc (s : State) (v : Word) : (s.setWZ v).bc = s.bc := rfl
@[simp] theorem setWZ_de (s : State) (v : Word) : (s.setWZ v).de = s.de := rfl
@[simp] theorem setWZ_hl (s : State) (v : Word) : (s.setWZ v).hl = s.hl := rfl
@[simp] theorem setWZ_wz (s : State) (v : Word) : (s.setWZ v).wz = v := rfl
@[simp] theorem setWZ_af' (s : State) (v : Word) : (s.setWZ v).af' = s.af' := rfl
@[simp] theorem setWZ_bc' (s : State) (v : Word) : (s.setWZ v).bc' = s.bc' := rfl
@[simp] theorem setWZ_de' (s : State) (v : Word) : (s.setWZ v).de' = s.de' := rfl
@[simp] theorem setWZ_hl' (s : State) (v : Word) : (s.setWZ v).hl' = s.hl' := rfl
@[simp] theorem setWZ_wz' (s : State) (v : Word) : (s.setWZ v).wz' = s.wz' := rfl
@[simp] theorem setWZ_ix (s : State) (v : Word) : (s.setWZ v).ix = s.ix := rfl
@[simp] theorem setWZ_iy (s : State) (v : Word) : (s.setWZ v).iy = s.iy := rfl
@[simp] theorem setWZ_sp (s : State) (v : Word) : (s.setWZ v).sp = s.sp := rfl
@[simp] theorem setWZ_pc (s : State) (v : Word) : (s.setWZ v).pc = s.pc := rfl
@[simp] theorem setWZ_i (s : State) (v : Word) : (s.setWZ v).i = s.i := rfl
@[simp] theorem setWZ_r (s : State) (v : Word) : (s.setWZ v).r = s.r := rfl
@[simp] theorem setWZ_im (s : State) (v : Word) : (s.setWZ v).im = s.im := rfl
@[simp] theorem setWZ_iff1 (s : State) (v : Word) : (s.setWZ v).iff1 = s.iff1 := rfl
@[simp] theorem setWZ_iff2 (s : State) (v : Word) : (s.setWZ v).iff2 = s.iff2 := rfl
@[simp] theorem setWZ_halted (s : State) (v : Word) : (s.setWZ v).halted = s.halted := rfl
@[simp] theorem setWZ_inv (s : State) (v : Word) : (s.setWZ v).inv = s.inv := rfl
@[simp] theorem setWZ_eiShadow (s : State) (v : Word) : (s.setWZ v).eiShadow = s.eiShadow := rfl
@[simp] theorem setWZ_hist (s : State) (v : Word) : (s.setWZ v).hist = s.hist := rfl
@[simp] theorem setWZ_hidx (s : State) (v : Word) : (s.setWZ v).hidx = s.hidx := rfl
@[simp] theorem setWZ_bus (s : State) (v : Word) : (s.setWZ v).bus = s.bus := rfl
@[simp] theorem setWZ_params (s : State) (v : Word) : (s.setWZ v).params = s.params := rfl
@[simp] theorem setWZ_cycles (s : State) (v : Word) : (s.setWZ v).cycles = s.cycles := rfl
@[simp] theorem setWZ_ioLog (s : State) (v : Word) : (s.setWZ v).ioLog = s.ioLog := rfl
@[simp] theorem setWZ_ioCount (s : State) (v : Word) : (s.setWZ v).ioCount = s.ioCount := rfl
@[simp] theorem setWZ_ioScript (s : State) (v : Word) : (s.setWZ v).ioScript = s.ioScript := rfl
@[simp] theorem setWZ_power (s : State) (v : Word) : (s.setWZ v).power = s.power := rfl
@[simp] theorem setWZ_faulted (s : State) (v : Word) : (s.setWZ v).faulted = s.faulted := rfl

/-! ## setPC -/

@[simp] theorem setPC_af (s : State) (v : Word) : (s.setPC v).af = s.af := rfl
@[simp] theorem setPC_bc (s : State) (v : Word) : (s.setPC v).bc = s.bc := rfl
@[simp] theorem setPC_de (s : State) (v : Word) : (s.setPC v).de = s.de := rfl
@[simp] theorem setPC_hl (s : State) (v : Word) : (s.setPC v).hl = s.hl := rfl
@[simp] theorem setPC_wz (s : State) (v : Word) : (s.setPC v).wz = s.wz := rfl
@[simp] theorem setPC_af' (s : State) (v : Word) : (s.setPC v).af' = s.af' := rfl
@[simp] theorem setPC_bc' (s : State) (v : Word) : (s.setPC v).bc' = s.bc' := rfl
@[simp] theorem setPC_de' (s : State) (v : Word) : (s.setPC v).de' = s.de' := rfl
@[simp] theorem setPC_hl' (s : State) (v : Word) : (s.setPC v).hl' = s.hl' := rfl
@[simp] theorem setPC_wz' (s : State) (v : Word) : (s.setPC v).wz' = s.wz' := rfl
@[simp] theorem setPC_ix (s : State) (v : Word) : (s.setPC v).ix = s.ix := rfl
@[simp] theorem setPC_iy (s : State) (v : Word) : (s.setPC v).iy = s.iy := rfl
@[simp] theorem setPC_sp (s : State) (v : Word) : (s.setPC v).sp = s.sp := rfl
@[simp] theorem setPC_pc (s : State) (v : Word) : (s.setPC v).pc = v := rfl
@[simp] theorem setPC_i (s : State) (v : Word) : (s.setPC v).i = s.i := rfl
@[simp] theorem setPC_r (s : State) (v : Word) : (s.setPC v).r = s.r := rfl
@[simp] theorem setPC_im (s : State) (v : Word) : (s.setPC v).im = s.im := rfl
@[simp] theorem setPC_iff1 (s : State) (v : Word) : (s.setPC v).iff1 = s.iff1 := rfl
@[simp] theorem setPC_iff2 (s : State) (v : Word) : (s.setPC v).iff2 = s.iff2 := rfl
@[simp] theorem setPC_halted (s : State) (v : Word) : (s.setPC v).halted = s.halted := rfl
@[simp] theorem setPC_inv (s : State) (v : Word) : (s.setPC v).inv = s.inv := rfl
@[simp] theorem setPC_eiShadow (s : State) (v : Word) : (s.setPC v).eiShadow = s.eiShadow := rfl
@[simp] theorem setPC_hist (s : State) (v : Word) : (s.setPC v).hist = s.hist := rfl
@[simp] theorem setPC_hidx (s : State) (v : Word) : (s.setPC v).hidx = s.hidx := rfl
@[simp] theorem setPC_bus (s : State) (v : Word) : (s.setPC v).bus = s.bus := rfl
@[simp] theorem setPC_params (s : State) (v : Word) : (s.setPC v).params = s.params := rfl
@[simp] theorem setPC_cycles (s : State) (v : Word) : (s.setPC v).cycles = s.cycles := rfl
@[simp] theorem setPC_ioLog (s : State) (v : Word) : (s.setPC v).ioLog = s.ioLog := rfl
@[simp] theorem setPC_ioCount (s : State) (v : Word) : (s.setPC v).ioCount = s.ioCount := rfl
@[simp] theorem setPC_ioScript (s : State) (v : Word) : (s.setPC v).ioScript = s.ioScript := rfl
@[simp] theorem setPC_power (s : State) (v : Word) : (s.setPC v).power = s.power := rfl
@[simp] theorem setPC_faulted (s : State) (v : Word) : (s.setPC v).faulted = s.faulted := rfl

/-! ## setCycles -/

@[simp] theorem setCycles_af (s : State) (n : Nat) : (s.setCycles n).af = s.af := rfl
@[simp] theorem setCycles_bc (s : State) (n : Nat) : (s.setCycles n).bc = s.bc := rfl
@[simp] theorem setCycles_de (s : State) (n : Nat) : (s.setCycles n).de = s.de := rfl
@[simp] theorem setCycles_hl (s : State) (n : Nat) : (s.setCycles n).hl = s.hl := rfl
@[simp] theorem setCycles_wz (s : State) (n : Nat) : (s.setCycles n).wz = s.wz := rfl
@[simp] theorem setCycles_af' (s : State) (n : Nat) : (s.setCycles n).af' = s.af' := rfl
@[simp] theorem setCycles_bc' (s : State) (n : Nat) : (s.setCycles n).bc' = s.bc' := rfl
@[simp] theorem setCycles_de' (s : State) (n : Nat) : (s.setCycles n).de' = s.de' := rfl
@[simp] theorem setCycles_hl' (s : State) (n : Nat) : (s.setCycles n).hl' = s.hl' := rfl
@[simp] theorem setCycles_wz' (s : State) (n : Nat) : (s.setCycles n).wz' = s.wz' := rfl
@[simp] theorem setCycles_ix (s : State) (n : Nat) : (s.setCycles n).ix = s.ix := rfl
@[simp] theorem setCycles_iy (s : State) (n : Nat) : (s.setCycles n).iy = s.iy := rfl
@[simp] theorem setCycles_sp (s : State) (n : Nat) : (s.setCycles n).sp = s.sp := rfl
@[simp] theorem setCycles_pc (s : State) (n : Nat) : (s.setCycles n).pc = s.pc := rfl
@[simp] theorem setCycles_i (s : State) (n : Nat) : (s.setCycles n).i = s.i := rfl
@[simp] theorem setCycles_r (s : State) (n : Nat) : (s.setCycles n).r = s.r := rfl
@[simp] theorem setCycles_im (s : State) (n : Nat) : (s.setCycles n).im = s.im := rfl
@[simp] theorem setCycles_iff1 (s : State) (n : Nat) : (s.setCycles n).iff1 = s.iff1 := rfl
@[simp] theorem setCycles_iff2 (s : State) (n : Nat) : (s.setCycles n).iff2 = s.iff2 := rfl
@[simp] theorem setCycles_halted (s : State) (n : Nat) : (s.setCycles n).halted = s.halted := rfl
@[simp] theorem setCycles_inv (s : State) (n : Nat) : (s.setCycles n).inv = s.inv := rfl
@[simp] theorem setCycles_eiShadow (s : State) (n : Nat) :
    (s.setCycles n).eiShadow = s.eiShadow := rfl
@[simp] theorem setCycles_hist (s : State) (n : Nat) : (s.setCycles n).hist = s.hist := rfl
@[simp] theorem setCycles_hidx (s : State) (n : Nat) : (s.setCycles n).hidx = s.hidx := rfl
@[simp] theorem setCycles_bus (s : State) (n : Nat) : (s.setCycles n).bus = s.bus := rfl
@[simp] theorem setCycles_params (s : State) (n : Nat) : (s.setCycles n).params = s.params := rfl
@[simp] theorem setCycles_cycles (s : State) (n : Nat) : (s.setCycles n).cycles = n := rfl
@[simp] theorem setCycles_ioLog (s : State) (n : Nat) : (s.setCycles n).ioLog = s.ioLog := rfl
@[simp] theorem setCycles_ioCount (s : State) (n : Nat) : (s.setCycles n).ioCount = s.ioCount := rfl
@[simp] theorem setCycles_ioScript (s : State) (n : Nat) :
    (s.setCycles n).ioScript = s.ioScript := rfl
@[simp] theorem setCycles_power (s : State) (n : Nat) : (s.setCycles n).power = s.power := rfl
@[simp] theorem setCycles_faulted (s : State) (n : Nat) : (s.setCycles n).faulted = s.faulted := rfl

/-! ## setReg8 -/

@[simp] theorem setReg8_wz (s : State) (r : Reg8) (v : Byte) :
    (s.setReg8 r v).wz = s.wz := by cases r <;> rfl
@[simp] theorem setReg8_af' (s : State) (r : Reg8) (v : Byte) :
    (s.setReg8 r v).af' = s.af' := by cases r <;> rfl
@[simp] theorem setReg8_bc' (s : State) (r : Reg8) (v : Byte) :
    (s.setReg8 r v).bc' = s.bc' := by cases r <;> rfl
@[simp] theorem setReg8_de' (s : State) (r : Reg8) (v : Byte) :
    (s.setReg8 r v).de' = s.de' := by cases r <;> rfl
@[simp] theorem setReg8_hl' (s : State) (r : Reg8) (v : Byte) :
    (s.setReg8 r v).hl' = s.hl' := by cases r <;> rfl
@[simp] theorem setReg8_wz' (s : State) (r : Reg8) (v : Byte) :
    (s.setReg8 r v).wz' = s.wz' := by cases r <;> rfl
@[simp] theorem setReg8_ix (s : State) (r : Reg8) (v : Byte) :
    (s.setReg8 r v).ix = s.ix := by cases r <;> rfl
@[simp] theorem setReg8_iy (s : State) (r : Reg8) (v : Byte) :
    (s.setReg8 r v).iy = s.iy := by cases r <;> rfl
@[simp] theorem setReg8_sp (s : State) (r : Reg8) (v : Byte) :
    (s.setReg8 r v).sp = s.sp := by cases r <;> rfl
@[simp] theorem setReg8_pc (s : State) (r : Reg8) (v : Byte) :
    (s.setReg8 r v).pc = s.pc := by cases r <;> rfl
@[simp] theorem setReg8_i (s : State) (r : Reg8) (v : Byte) :
    (s.setReg8 r v).i = s.i := by cases r <;> rfl
@[simp] theorem setReg8_r (s : State) (r : Reg8) (v : Byte) :
    (s.setReg8 r v).r = s.r := by cases r <;> rfl
@[simp] theorem setReg8_im (s : State) (r : Reg8) (v : Byte) :
    (s.setReg8 r v).im = s.im := by cases r <;> rfl
@[simp] theorem setReg8_iff1 (s : State) (r : Reg8) (v : Byte) :
    (s.setReg8 r v).iff1 = s.iff1 := by cases r <;> rfl
@[simp] theorem setReg8_iff2 (s : State) (r : Reg8) (v : Byte) :
    (s.setReg8 r v).iff2 = s.iff2 := by cases r <;> rfl
@[simp] theorem setReg8_halted (s : State) (r : Reg8) (v : Byte) :
    (s.setReg8 r v).halted = s.halted := by cases r <;> rfl
@[simp] theorem setReg8_inv (s : State) (r : Reg8) (v : Byte) :
    (s.setReg8 r v).inv = s.inv := by cases r <;> rfl
@[simp] theorem setReg8_eiShadow (s : State) (r : Reg8) (v : Byte) :
    (s.setReg8 r v).eiShadow = s.eiShadow := by cases r <;> rfl
@[simp] theorem setReg8_hist (s : State) (r : Reg8) (v : Byte) :
    (s.setReg8 r v).hist = s.hist := by cases r <;> rfl
@[simp] theorem setReg8_hidx (s : State) (r : Reg8) (v : Byte) :
    (s.setReg8 r v).hidx = s.hidx := by cases r <;> rfl
@[simp] theorem setReg8_bus (s : State) (r : Reg8) (v : Byte) :
    (s.setReg8 r v).bus = s.bus := by cases r <;> rfl
@[simp] theorem setReg8_params (s : State) (r : Reg8) (v : Byte) :
    (s.setReg8 r v).params = s.params := by cases r <;> rfl
@[simp] theorem setReg8_cycles (s : State) (r : Reg8) (v : Byte) :
    (s.setReg8 r v).cycles = s.cycles := by cases r <;> rfl
@[simp] theorem setReg8_ioLog (s : State) (r : Reg8) (v : Byte) :
    (s.setReg8 r v).ioLog = s.ioLog := by cases r <;> rfl
@[simp] theorem setReg8_ioCount (s : State) (r : Reg8) (v : Byte) :
    (s.setReg8 r v).ioCount = s.ioCount := by cases r <;> rfl
@[simp] theorem setReg8_ioScript (s : State) (r : Reg8) (v : Byte) :
    (s.setReg8 r v).ioScript = s.ioScript := by cases r <;> rfl
@[simp] theorem setReg8_power (s : State) (r : Reg8) (v : Byte) :
    (s.setReg8 r v).power = s.power := by cases r <;> rfl
@[simp] theorem setReg8_faulted (s : State) (r : Reg8) (v : Byte) :
    (s.setReg8 r v).faulted = s.faulted := by cases r <;> rfl

/-! ## setPairSS -/

@[simp] theorem setPairSS_af (s : State) (p : PairSS) (v : Word) :
    (s.setPairSS p v).af = s.af := by cases p <;> rfl
@[simp] theorem setPairSS_wz (s : State) (p : PairSS) (v : Word) :
    (s.setPairSS p v).wz = s.wz := by cases p <;> rfl
@[simp] theorem setPairSS_af' (s : State) (p : PairSS) (v : Word) :
    (s.setPairSS p v).af' = s.af' := by cases p <;> rfl
@[simp] theorem setPairSS_bc' (s : State) (p : PairSS) (v : Word) :
    (s.setPairSS p v).bc' = s.bc' := by cases p <;> rfl
@[simp] theorem setPairSS_de' (s : State) (p : PairSS) (v : Word) :
    (s.setPairSS p v).de' = s.de' := by cases p <;> rfl
@[simp] theorem setPairSS_hl' (s : State) (p : PairSS) (v : Word) :
    (s.setPairSS p v).hl' = s.hl' := by cases p <;> rfl
@[simp] theorem setPairSS_wz' (s : State) (p : PairSS) (v : Word) :
    (s.setPairSS p v).wz' = s.wz' := by cases p <;> rfl
@[simp] theorem setPairSS_ix (s : State) (p : PairSS) (v : Word) :
    (s.setPairSS p v).ix = s.ix := by cases p <;> rfl
@[simp] theorem setPairSS_iy (s : State) (p : PairSS) (v : Word) :
    (s.setPairSS p v).iy = s.iy := by cases p <;> rfl
@[simp] theorem setPairSS_pc (s : State) (p : PairSS) (v : Word) :
    (s.setPairSS p v).pc = s.pc := by cases p <;> rfl
@[simp] theorem setPairSS_i (s : State) (p : PairSS) (v : Word) :
    (s.setPairSS p v).i = s.i := by cases p <;> rfl
@[simp] theorem setPairSS_r (s : State) (p : PairSS) (v : Word) :
    (s.setPairSS p v).r = s.r := by cases p <;> rfl
@[simp] theorem setPairSS_im (s : State) (p : PairSS) (v : Word) :
    (s.setPairSS p v).im = s.im := by cases p <;> rfl
@[simp] theorem setPairSS_iff1 (s : State) (p : PairSS) (v : Word) :
    (s.setPairSS p v).iff1 = s.iff1 := by cases p <;> rfl
@[simp] theorem setPairSS_iff2 (s : State) (p : PairSS) (v : Word) :
    (s.setPairSS p v).iff2 = s.iff2 := by cases p <;> rfl
@[simp] theorem setPairSS_halted (s : State) (p : PairSS) (v : Word) :
    (s.setPairSS p v).halted = s.halted := by cases p <;> rfl
@[simp] theorem setPairSS_inv (s : State) (p : PairSS) (v : Word) :
    (s.setPairSS p v).inv = s.inv := by cases p <;> rfl
@[simp] theorem setPairSS_eiShadow (s : State) (p : PairSS) (v : Word) :
    (s.setPairSS p v).eiShadow = s.eiShadow := by cases p <;> rfl
@[simp] theorem setPairSS_hist (s : State) (p : PairSS) (v : Word) :
    (s.setPairSS p v).hist = s.hist := by cases p <;> rfl
@[simp] theorem setPairSS_hidx (s : State) (p : PairSS) (v : Word) :
    (s.setPairSS p v).hidx = s.hidx := by cases p <;> rfl
@[simp] theorem setPairSS_bus (s : State) (p : PairSS) (v : Word) :
    (s.setPairSS p v).bus = s.bus := by cases p <;> rfl
@[simp] theorem setPairSS_params (s : State) (p : PairSS) (v : Word) :
    (s.setPairSS p v).params = s.params := by cases p <;> rfl
@[simp] theorem setPairSS_cycles (s : State) (p : PairSS) (v : Word) :
    (s.setPairSS p v).cycles = s.cycles := by cases p <;> rfl
@[simp] theorem setPairSS_ioLog (s : State) (p : PairSS) (v : Word) :
    (s.setPairSS p v).ioLog = s.ioLog := by cases p <;> rfl
@[simp] theorem setPairSS_ioCount (s : State) (p : PairSS) (v : Word) :
    (s.setPairSS p v).ioCount = s.ioCount := by cases p <;> rfl
@[simp] theorem setPairSS_ioScript (s : State) (p : PairSS) (v : Word) :
    (s.setPairSS p v).ioScript = s.ioScript := by cases p <;> rfl
@[simp] theorem setPairSS_power (s : State) (p : PairSS) (v : Word) :
    (s.setPairSS p v).power = s.power := by cases p <;> rfl
@[simp] theorem setPairSS_faulted (s : State) (p : PairSS) (v : Word) :
    (s.setPairSS p v).faulted = s.faulted := by cases p <;> rfl

/-! ## setPairQQ -/

@[simp] theorem setPairQQ_wz (s : State) (p : PairQQ) (v : Word) :
    (s.setPairQQ p v).wz = s.wz := by cases p <;> rfl
@[simp] theorem setPairQQ_af' (s : State) (p : PairQQ) (v : Word) :
    (s.setPairQQ p v).af' = s.af' := by cases p <;> rfl
@[simp] theorem setPairQQ_bc' (s : State) (p : PairQQ) (v : Word) :
    (s.setPairQQ p v).bc' = s.bc' := by cases p <;> rfl
@[simp] theorem setPairQQ_de' (s : State) (p : PairQQ) (v : Word) :
    (s.setPairQQ p v).de' = s.de' := by cases p <;> rfl
@[simp] theorem setPairQQ_hl' (s : State) (p : PairQQ) (v : Word) :
    (s.setPairQQ p v).hl' = s.hl' := by cases p <;> rfl
@[simp] theorem setPairQQ_wz' (s : State) (p : PairQQ) (v : Word) :
    (s.setPairQQ p v).wz' = s.wz' := by cases p <;> rfl
@[simp] theorem setPairQQ_ix (s : State) (p : PairQQ) (v : Word) :
    (s.setPairQQ p v).ix = s.ix := by cases p <;> rfl
@[simp] theorem setPairQQ_iy (s : State) (p : PairQQ) (v : Word) :
    (s.setPairQQ p v).iy = s.iy := by cases p <;> rfl
@[simp] theorem setPairQQ_sp (s : State) (p : PairQQ) (v : Word) :
    (s.setPairQQ p v).sp = s.sp := by cases p <;> rfl
@[simp] theorem setPairQQ_pc (s : State) (p : PairQQ) (v : Word) :
    (s.setPairQQ p v).pc = s.pc := by cases p <;> rfl
@[simp] theorem setPairQQ_i (s : State) (p : PairQQ) (v : Word) :
    (s.setPairQQ p v).i = s.i := by cases p <;> rfl
@[simp] theorem setPairQQ_r (s : State) (p : PairQQ) (v : Word) :
    (s.setPairQQ p v).r = s.r := by cases p <;> rfl
@[simp] theorem setPairQQ_im (s : State) (p : PairQQ) (v : Word) :
    (s.setPairQQ p v).im = s.im := by cases p <;> rfl
@[simp] theorem setPairQQ_iff1 (s : State) (p : PairQQ) (v : Word) :
    (s.setPairQQ p v).iff1 = s.iff1 := by cases p <;> rfl
@[simp] theorem setPairQQ_iff2 (s : State) (p : PairQQ) (v : Word) :
    (s.setPairQQ p v).iff2 = s.iff2 := by cases p <;> rfl
@[simp] theorem setPairQQ_halted (s : State) (p : PairQQ) (v : Word) :
    (s.setPairQQ p v).halted = s.halted := by cases p <;> rfl
@[simp] theorem setPairQQ_inv (s : State) (p : PairQQ) (v : Word) :
    (s.setPairQQ p v).inv = s.inv := by cases p <;> rfl
@[simp] theorem setPairQQ_eiShadow (s : State) (p : PairQQ) (v : Word) :
    (s.setPairQQ p v).eiShadow = s.eiShadow := by cases p <;> rfl
@[simp] theorem setPairQQ_hist (s : State) (p : PairQQ) (v : Word) :
    (s.setPairQQ p v).hist = s.hist := by cases p <;> rfl
@[simp] theorem setPairQQ_hidx (s : State) (p : PairQQ) (v : Word) :
    (s.setPairQQ p v).hidx = s.hidx := by cases p <;> rfl
@[simp] theorem setPairQQ_bus (s : State) (p : PairQQ) (v : Word) :
    (s.setPairQQ p v).bus = s.bus := by cases p <;> rfl
@[simp] theorem setPairQQ_params (s : State) (p : PairQQ) (v : Word) :
    (s.setPairQQ p v).params = s.params := by cases p <;> rfl
@[simp] theorem setPairQQ_cycles (s : State) (p : PairQQ) (v : Word) :
    (s.setPairQQ p v).cycles = s.cycles := by cases p <;> rfl
@[simp] theorem setPairQQ_ioLog (s : State) (p : PairQQ) (v : Word) :
    (s.setPairQQ p v).ioLog = s.ioLog := by cases p <;> rfl
@[simp] theorem setPairQQ_ioCount (s : State) (p : PairQQ) (v : Word) :
    (s.setPairQQ p v).ioCount = s.ioCount := by cases p <;> rfl
@[simp] theorem setPairQQ_ioScript (s : State) (p : PairQQ) (v : Word) :
    (s.setPairQQ p v).ioScript = s.ioScript := by cases p <;> rfl
@[simp] theorem setPairQQ_power (s : State) (p : PairQQ) (v : Word) :
    (s.setPairQQ p v).power = s.power := by cases p <;> rfl
@[simp] theorem setPairQQ_faulted (s : State) (p : PairQQ) (v : Word) :
    (s.setPairQQ p v).faulted = s.faulted := by cases p <;> rfl

/-! ## setIdx -/

@[simp] theorem setIdx_af (s : State) (x : Idx) (v : Word) :
    (s.setIdx x v).af = s.af := by cases x <;> rfl
@[simp] theorem setIdx_bc (s : State) (x : Idx) (v : Word) :
    (s.setIdx x v).bc = s.bc := by cases x <;> rfl
@[simp] theorem setIdx_de (s : State) (x : Idx) (v : Word) :
    (s.setIdx x v).de = s.de := by cases x <;> rfl
@[simp] theorem setIdx_hl (s : State) (x : Idx) (v : Word) :
    (s.setIdx x v).hl = s.hl := by cases x <;> rfl
@[simp] theorem setIdx_wz (s : State) (x : Idx) (v : Word) :
    (s.setIdx x v).wz = s.wz := by cases x <;> rfl
@[simp] theorem setIdx_af' (s : State) (x : Idx) (v : Word) :
    (s.setIdx x v).af' = s.af' := by cases x <;> rfl
@[simp] theorem setIdx_bc' (s : State) (x : Idx) (v : Word) :
    (s.setIdx x v).bc' = s.bc' := by cases x <;> rfl
@[simp] theorem setIdx_de' (s : State) (x : Idx) (v : Word) :
    (s.setIdx x v).de' = s.de' := by cases x <;> rfl
@[simp] theorem setIdx_hl' (s : State) (x : Idx) (v : Word) :
    (s.setIdx x v).hl' = s.hl' := by cases x <;> rfl
@[simp] theorem setIdx_wz' (s : State) (x : Idx) (v : Word) :
    (s.setIdx x v).wz' = s.wz' := by cases x <;> rfl
@[simp] theorem setIdx_sp (s : State) (x : Idx) (v : Word) :
    (s.setIdx x v).sp = s.sp := by cases x <;> rfl
@[simp] theorem setIdx_pc (s : State) (x : Idx) (v : Word) :
    (s.setIdx x v).pc = s.pc := by cases x <;> rfl
@[simp] theorem setIdx_i (s : State) (x : Idx) (v : Word) :
    (s.setIdx x v).i = s.i := by cases x <;> rfl
@[simp] theorem setIdx_r (s : State) (x : Idx) (v : Word) :
    (s.setIdx x v).r = s.r := by cases x <;> rfl
@[simp] theorem setIdx_im (s : State) (x : Idx) (v : Word) :
    (s.setIdx x v).im = s.im := by cases x <;> rfl
@[simp] theorem setIdx_iff1 (s : State) (x : Idx) (v : Word) :
    (s.setIdx x v).iff1 = s.iff1 := by cases x <;> rfl
@[simp] theorem setIdx_iff2 (s : State) (x : Idx) (v : Word) :
    (s.setIdx x v).iff2 = s.iff2 := by cases x <;> rfl
@[simp] theorem setIdx_halted (s : State) (x : Idx) (v : Word) :
    (s.setIdx x v).halted = s.halted := by cases x <;> rfl
@[simp] theorem setIdx_inv (s : State) (x : Idx) (v : Word) :
    (s.setIdx x v).inv = s.inv := by cases x <;> rfl
@[simp] theorem setIdx_eiShadow (s : State) (x : Idx) (v : Word) :
    (s.setIdx x v).eiShadow = s.eiShadow := by cases x <;> rfl
@[simp] theorem setIdx_hist (s : State) (x : Idx) (v : Word) :
    (s.setIdx x v).hist = s.hist := by cases x <;> rfl
@[simp] theorem setIdx_hidx (s : State) (x : Idx) (v : Word) :
    (s.setIdx x v).hidx = s.hidx := by cases x <;> rfl
@[simp] theorem setIdx_bus (s : State) (x : Idx) (v : Word) :
    (s.setIdx x v).bus = s.bus := by cases x <;> rfl
@[simp] theorem setIdx_params (s : State) (x : Idx) (v : Word) :
    (s.setIdx x v).params = s.params := by cases x <;> rfl
@[simp] theorem setIdx_cycles (s : State) (x : Idx) (v : Word) :
    (s.setIdx x v).cycles = s.cycles := by cases x <;> rfl
@[simp] theorem setIdx_ioLog (s : State) (x : Idx) (v : Word) :
    (s.setIdx x v).ioLog = s.ioLog := by cases x <;> rfl
@[simp] theorem setIdx_ioCount (s : State) (x : Idx) (v : Word) :
    (s.setIdx x v).ioCount = s.ioCount := by cases x <;> rfl
@[simp] theorem setIdx_ioScript (s : State) (x : Idx) (v : Word) :
    (s.setIdx x v).ioScript = s.ioScript := by cases x <;> rfl
@[simp] theorem setIdx_power (s : State) (x : Idx) (v : Word) :
    (s.setIdx x v).power = s.power := by cases x <;> rfl
@[simp] theorem setIdx_faulted (s : State) (x : Idx) (v : Word) :
    (s.setIdx x v).faulted = s.faulted := by cases x <;> rfl

/-! ## setHalf -/

@[simp] theorem setHalf_af (s : State) (x : Idx) (k : Half) (v : Byte) :
    (s.setHalf x k v).af = s.af := by cases x <;> cases k <;> rfl
@[simp] theorem setHalf_bc (s : State) (x : Idx) (k : Half) (v : Byte) :
    (s.setHalf x k v).bc = s.bc := by cases x <;> cases k <;> rfl
@[simp] theorem setHalf_de (s : State) (x : Idx) (k : Half) (v : Byte) :
    (s.setHalf x k v).de = s.de := by cases x <;> cases k <;> rfl
@[simp] theorem setHalf_hl (s : State) (x : Idx) (k : Half) (v : Byte) :
    (s.setHalf x k v).hl = s.hl := by cases x <;> cases k <;> rfl
@[simp] theorem setHalf_wz (s : State) (x : Idx) (k : Half) (v : Byte) :
    (s.setHalf x k v).wz = s.wz := by cases x <;> cases k <;> rfl
@[simp] theorem setHalf_af' (s : State) (x : Idx) (k : Half) (v : Byte) :
    (s.setHalf x k v).af' = s.af' := by cases x <;> cases k <;> rfl
@[simp] theorem setHalf_bc' (s : State) (x : Idx) (k : Half) (v : Byte) :
    (s.setHalf x k v).bc' = s.bc' := by cases x <;> cases k <;> rfl
@[simp] theorem setHalf_de' (s : State) (x : Idx) (k : Half) (v : Byte) :
    (s.setHalf x k v).de' = s.de' := by cases x <;> cases k <;> rfl
@[simp] theorem setHalf_hl' (s : State) (x : Idx) (k : Half) (v : Byte) :
    (s.setHalf x k v).hl' = s.hl' := by cases x <;> cases k <;> rfl
@[simp] theorem setHalf_wz' (s : State) (x : Idx) (k : Half) (v : Byte) :
    (s.setHalf x k v).wz' = s.wz' := by cases x <;> cases k <;> rfl
@[simp] theorem setHalf_sp (s : State) (x : Idx) (k : Half) (v : Byte) :
    (s.setHalf x k v).sp = s.sp := by cases x <;> cases k <;> rfl
@[simp] theorem setHalf_pc (s : State) (x : Idx) (k : Half) (v : Byte) :
    (s.setHalf x k v).pc = s.pc := by cases x <;> cases k <;> rfl
@[simp] theorem setHalf_i (s : State) (x : Idx) (k : Half) (v : Byte) :
    (s.setHalf x k v).i = s.i := by cases x <;> cases k <;> rfl
@[simp] theorem setHalf_r (s : State) (x : Idx) (k : Half) (v : Byte) :
    (s.setHalf x k v).r = s.r := by cases x <;> cases k <;> rfl
@[simp] theorem setHalf_im (s : State) (x : Idx) (k : Half) (v : Byte) :
    (s.setHalf x k v).im = s.im := by cases x <;> cases k <;> rfl
@[simp] theorem setHalf_iff1 (s : State) (x : Idx) (k : Half) (v : Byte) :
    (s.setHalf x k v).iff1 = s.iff1 := by cases x <;> cases k <;> rfl
@[simp] theorem setHalf_iff2 (s : State) (x : Idx) (k : Half) (v : Byte) :
    (s.setHalf x k v).iff2 = s.iff2 := by cases x <;> cases k <;> rfl
@[simp] theorem setHalf_halted (s : State) (x : Idx) (k : Half) (v : Byte) :
    (s.setHalf x k v).halted = s.halted := by cases x <;> cases k <;> rfl
@[simp] theorem setHalf_inv (s : State) (x : Idx) (k : Half) (v : Byte) :
    (s.setHalf x k v).inv = s.inv := by cases x <;> cases k <;> rfl
@[simp] theorem setHalf_eiShadow (s : State) (x : Idx) (k : Half) (v : Byte) :
    (s.setHalf x k v).eiShadow = s.eiShadow := by cases x <;> cases k <;> rfl
@[simp] theorem setHalf_hist (s : State) (x : Idx) (k : Half) (v : Byte) :
    (s.setHalf x k v).hist = s.hist := by cases x <;> cases k <;> rfl
@[simp] theorem setHalf_hidx (s : State) (x : Idx) (k : Half) (v : Byte) :
    (s.setHalf x k v).hidx = s.hidx := by cases x <;> cases k <;> rfl
@[simp] theorem setHalf_bus (s : State) (x : Idx) (k : Half) (v : Byte) :
    (s.setHalf x k v).bus = s.bus := by cases x <;> cases k <;> rfl
@[simp] theorem setHalf_params (s : State) (x : Idx) (k : Half) (v : Byte) :
    (s.setHalf x k v).params = s.params := by cases x <;> cases k <;> rfl
@[simp] theorem setHalf_cycles (s : State) (x : Idx) (k : Half) (v : Byte) :
    (s.setHalf x k v).cycles = s.cycles := by cases x <;> cases k <;> rfl
@[simp] theorem setHalf_ioLog (s : State) (x : Idx) (k : Half) (v : Byte) :
    (s.setHalf x k v).ioLog = s.ioLog := by cases x <;> cases k <;> rfl
@[simp] theorem setHalf_ioCount (s : State) (x : Idx) (k : Half) (v : Byte) :
    (s.setHalf x k v).ioCount = s.ioCount := by cases x <;> cases k <;> rfl
@[simp] theorem setHalf_ioScript (s : State) (x : Idx) (k : Half) (v : Byte) :
    (s.setHalf x k v).ioScript = s.ioScript := by cases x <;> cases k <;> rfl
@[simp] theorem setHalf_power (s : State) (x : Idx) (k : Half) (v : Byte) :
    (s.setHalf x k v).power = s.power := by cases x <;> cases k <;> rfl
@[simp] theorem setHalf_faulted (s : State) (x : Idx) (k : Half) (v : Byte) :
    (s.setHalf x k v).faulted = s.faulted := by cases x <;> cases k <;> rfl

/-! ## write8 -/

@[simp] theorem write8_af (s : State) (a : Word) (v : Byte) : (s.write8 a v).af = s.af := rfl
@[simp] theorem write8_bc (s : State) (a : Word) (v : Byte) : (s.write8 a v).bc = s.bc := rfl
@[simp] theorem write8_de (s : State) (a : Word) (v : Byte) : (s.write8 a v).de = s.de := rfl
@[simp] theorem write8_hl (s : State) (a : Word) (v : Byte) : (s.write8 a v).hl = s.hl := rfl
@[simp] theorem write8_wz (s : State) (a : Word) (v : Byte) : (s.write8 a v).wz = s.wz := rfl
@[simp] theorem write8_af' (s : State) (a : Word) (v : Byte) : (s.write8 a v).af' = s.af' := rfl
@[simp] theorem write8_bc' (s : State) (a : Word) (v : Byte) : (s.write8 a v).bc' = s.bc' := rfl
@[simp] theorem write8_de' (s : State) (a : Word) (v : Byte) : (s.write8 a v).de' = s.de' := rfl
@[simp] theorem write8_hl' (s : State) (a : Word) (v : Byte) : (s.write8 a v).hl' = s.hl' := rfl
@[simp] theorem write8_wz' (s : State) (a : Word) (v : Byte) : (s.write8 a v).wz' = s.wz' := rfl
@[simp] theorem write8_ix (s : State) (a : Word) (v : Byte) : (s.write8 a v).ix = s.ix := rfl
@[simp] theorem write8_iy (s : State) (a : Word) (v : Byte) : (s.write8 a v).iy = s.iy := rfl
@[simp] theorem write8_sp (s : State) (a : Word) (v : Byte) : (s.write8 a v).sp = s.sp := rfl
@[simp] theorem write8_pc (s : State) (a : Word) (v : Byte) : (s.write8 a v).pc = s.pc := rfl
@[simp] theorem write8_i (s : State) (a : Word) (v : Byte) : (s.write8 a v).i = s.i := rfl
@[simp] theorem write8_r (s : State) (a : Word) (v : Byte) : (s.write8 a v).r = s.r := rfl
@[simp] theorem write8_im (s : State) (a : Word) (v : Byte) : (s.write8 a v).im = s.im := rfl
@[simp] theorem write8_iff1 (s : State) (a : Word) (v : Byte) : (s.write8 a v).iff1 = s.iff1 := rfl
@[simp] theorem write8_iff2 (s : State) (a : Word) (v : Byte) : (s.write8 a v).iff2 = s.iff2 := rfl
@[simp] theorem write8_halted (s : State) (a : Word) (v : Byte) :
    (s.write8 a v).halted = s.halted := rfl
@[simp] theorem write8_inv (s : State) (a : Word) (v : Byte) : (s.write8 a v).inv = s.inv := rfl
@[simp] theorem write8_eiShadow (s : State) (a : Word) (v : Byte) :
    (s.write8 a v).eiShadow = s.eiShadow := rfl
@[simp] theorem write8_hist (s : State) (a : Word) (v : Byte) : (s.write8 a v).hist = s.hist := rfl
@[simp] theorem write8_hidx (s : State) (a : Word) (v : Byte) : (s.write8 a v).hidx = s.hidx := rfl
@[simp] theorem write8_bus (s : State) (a : Word) (v : Byte) :
    (s.write8 a v).bus = s.bus.write8 a v := rfl
@[simp] theorem write8_params (s : State) (a : Word) (v : Byte) :
    (s.write8 a v).params = s.params := rfl
@[simp] theorem write8_cycles (s : State) (a : Word) (v : Byte) :
    (s.write8 a v).cycles = s.cycles := rfl
@[simp] theorem write8_ioLog (s : State) (a : Word) (v : Byte) :
    (s.write8 a v).ioLog = s.ioLog := rfl
@[simp] theorem write8_ioCount (s : State) (a : Word) (v : Byte) :
    (s.write8 a v).ioCount = s.ioCount := rfl
@[simp] theorem write8_ioScript (s : State) (a : Word) (v : Byte) :
    (s.write8 a v).ioScript = s.ioScript := rfl
@[simp] theorem write8_power (s : State) (a : Word) (v : Byte) :
    (s.write8 a v).power = s.power := rfl
@[simp] theorem write8_faulted (s : State) (a : Word) (v : Byte) :
    (s.write8 a v).faulted = s.faulted := rfl

/-! ## write16 -/

@[simp] theorem write16_af (s : State) (a v : Word) : (s.write16 a v).af = s.af := rfl
@[simp] theorem write16_bc (s : State) (a v : Word) : (s.write16 a v).bc = s.bc := rfl
@[simp] theorem write16_de (s : State) (a v : Word) : (s.write16 a v).de = s.de := rfl
@[simp] theorem write16_hl (s : State) (a v : Word) : (s.write16 a v).hl = s.hl := rfl
@[simp] theorem write16_wz (s : State) (a v : Word) : (s.write16 a v).wz = s.wz := rfl
@[simp] theorem write16_af' (s : State) (a v : Word) : (s.write16 a v).af' = s.af' := rfl
@[simp] theorem write16_bc' (s : State) (a v : Word) : (s.write16 a v).bc' = s.bc' := rfl
@[simp] theorem write16_de' (s : State) (a v : Word) : (s.write16 a v).de' = s.de' := rfl
@[simp] theorem write16_hl' (s : State) (a v : Word) : (s.write16 a v).hl' = s.hl' := rfl
@[simp] theorem write16_wz' (s : State) (a v : Word) : (s.write16 a v).wz' = s.wz' := rfl
@[simp] theorem write16_ix (s : State) (a v : Word) : (s.write16 a v).ix = s.ix := rfl
@[simp] theorem write16_iy (s : State) (a v : Word) : (s.write16 a v).iy = s.iy := rfl
@[simp] theorem write16_sp (s : State) (a v : Word) : (s.write16 a v).sp = s.sp := rfl
@[simp] theorem write16_pc (s : State) (a v : Word) : (s.write16 a v).pc = s.pc := rfl
@[simp] theorem write16_i (s : State) (a v : Word) : (s.write16 a v).i = s.i := rfl
@[simp] theorem write16_r (s : State) (a v : Word) : (s.write16 a v).r = s.r := rfl
@[simp] theorem write16_im (s : State) (a v : Word) : (s.write16 a v).im = s.im := rfl
@[simp] theorem write16_iff1 (s : State) (a v : Word) : (s.write16 a v).iff1 = s.iff1 := rfl
@[simp] theorem write16_iff2 (s : State) (a v : Word) : (s.write16 a v).iff2 = s.iff2 := rfl
@[simp] theorem write16_halted (s : State) (a v : Word) : (s.write16 a v).halted = s.halted := rfl
@[simp] theorem write16_inv (s : State) (a v : Word) : (s.write16 a v).inv = s.inv := rfl
@[simp] theorem write16_eiShadow (s : State) (a v : Word) :
    (s.write16 a v).eiShadow = s.eiShadow := rfl
@[simp] theorem write16_hist (s : State) (a v : Word) : (s.write16 a v).hist = s.hist := rfl
@[simp] theorem write16_hidx (s : State) (a v : Word) : (s.write16 a v).hidx = s.hidx := rfl
@[simp] theorem write16_bus (s : State) (a v : Word) :
    (s.write16 a v).bus = (s.bus.write8 a (lo v)).write8 (a + 1) (hi v) := rfl
@[simp] theorem write16_params (s : State) (a v : Word) : (s.write16 a v).params = s.params := rfl
@[simp] theorem write16_cycles (s : State) (a v : Word) : (s.write16 a v).cycles = s.cycles := rfl
@[simp] theorem write16_ioLog (s : State) (a v : Word) : (s.write16 a v).ioLog = s.ioLog := rfl
@[simp] theorem write16_ioCount (s : State) (a v : Word) :
    (s.write16 a v).ioCount = s.ioCount := rfl
@[simp] theorem write16_ioScript (s : State) (a v : Word) :
    (s.write16 a v).ioScript = s.ioScript := rfl
@[simp] theorem write16_power (s : State) (a v : Word) : (s.write16 a v).power = s.power := rfl
@[simp] theorem write16_faulted (s : State) (a v : Word) :
    (s.write16 a v).faulted = s.faulted := rfl

/-! ## push16 -/

@[simp] theorem push16_af (s : State) (v : Word) : (s.push16 v).af = s.af := rfl
@[simp] theorem push16_bc (s : State) (v : Word) : (s.push16 v).bc = s.bc := rfl
@[simp] theorem push16_de (s : State) (v : Word) : (s.push16 v).de = s.de := rfl
@[simp] theorem push16_hl (s : State) (v : Word) : (s.push16 v).hl = s.hl := rfl
@[simp] theorem push16_wz (s : State) (v : Word) : (s.push16 v).wz = s.wz := rfl
@[simp] theorem push16_af' (s : State) (v : Word) : (s.push16 v).af' = s.af' := rfl
@[simp] theorem push16_bc' (s : State) (v : Word) : (s.push16 v).bc' = s.bc' := rfl
@[simp] theorem push16_de' (s : State) (v : Word) : (s.push16 v).de' = s.de' := rfl
@[simp] theorem push16_hl' (s : State) (v : Word) : (s.push16 v).hl' = s.hl' := rfl
@[simp] theorem push16_wz' (s : State) (v : Word) : (s.push16 v).wz' = s.wz' := rfl
@[simp] theorem push16_ix (s : State) (v : Word) : (s.push16 v).ix = s.ix := rfl
@[simp] theorem push16_iy (s : State) (v : Word) : (s.push16 v).iy = s.iy := rfl
@[simp] theorem push16_sp (s : State) (v : Word) : (s.push16 v).sp = s.sp - 2 := sub_one_one _
@[simp] theorem push16_pc (s : State) (v : Word) : (s.push16 v).pc = s.pc := rfl
@[simp] theorem push16_i (s : State) (v : Word) : (s.push16 v).i = s.i := rfl
@[simp] theorem push16_r (s : State) (v : Word) : (s.push16 v).r = s.r := rfl
@[simp] theorem push16_im (s : State) (v : Word) : (s.push16 v).im = s.im := rfl
@[simp] theorem push16_iff1 (s : State) (v : Word) : (s.push16 v).iff1 = s.iff1 := rfl
@[simp] theorem push16_iff2 (s : State) (v : Word) : (s.push16 v).iff2 = s.iff2 := rfl
@[simp] theorem push16_halted (s : State) (v : Word) : (s.push16 v).halted = s.halted := rfl
@[simp] theorem push16_inv (s : State) (v : Word) : (s.push16 v).inv = s.inv := rfl
@[simp] theorem push16_eiShadow (s : State) (v : Word) : (s.push16 v).eiShadow = s.eiShadow := rfl
@[simp] theorem push16_hist (s : State) (v : Word) : (s.push16 v).hist = s.hist := rfl
@[simp] theorem push16_hidx (s : State) (v : Word) : (s.push16 v).hidx = s.hidx := rfl
@[simp] theorem push16_bus (s : State) (v : Word) :
    (s.push16 v).bus = (s.bus.write8 (s.sp - 1) (hi v)).write8 (s.sp - 2) (lo v) := by
  rw [← sub_one_one]
  rfl
@[simp] theorem push16_params (s : State) (v : Word) : (s.push16 v).params = s.params := rfl
@[simp] theorem push16_cycles (s : State) (v : Word) : (s.push16 v).cycles = s.cycles := rfl
@[simp] theorem push16_ioLog (s : State) (v : Word) : (s.push16 v).ioLog = s.ioLog := rfl
@[simp] theorem push16_ioCount (s : State) (v : Word) : (s.push16 v).ioCount = s.ioCount := rfl
@[simp] theorem push16_ioScript (s : State) (v : Word) : (s.push16 v).ioScript = s.ioScript := rfl
@[simp] theorem push16_power (s : State) (v : Word) : (s.push16 v).power = s.power := rfl
@[simp] theorem push16_faulted (s : State) (v : Word) : (s.push16 v).faulted = s.faulted := rfl

/-! ## popState -/

@[simp] theorem popState_af (s : State) : (s.popState).af = s.af := rfl
@[simp] theorem popState_bc (s : State) : (s.popState).bc = s.bc := rfl
@[simp] theorem popState_de (s : State) : (s.popState).de = s.de := rfl
@[simp] theorem popState_hl (s : State) : (s.popState).hl = s.hl := rfl
@[simp] theorem popState_wz (s : State) : (s.popState).wz = s.wz := rfl
@[simp] theorem popState_af' (s : State) : (s.popState).af' = s.af' := rfl
@[simp] theorem popState_bc' (s : State) : (s.popState).bc' = s.bc' := rfl
@[simp] theorem popState_de' (s : State) : (s.popState).de' = s.de' := rfl
@[simp] theorem popState_hl' (s : State) : (s.popState).hl' = s.hl' := rfl
@[simp] theorem popState_wz' (s : State) : (s.popState).wz' = s.wz' := rfl
@[simp] theorem popState_ix (s : State) : (s.popState).ix = s.ix := rfl
@[simp] theorem popState_iy (s : State) : (s.popState).iy = s.iy := rfl
@[simp] theorem popState_sp (s : State) : (s.popState).sp = s.sp + 2 := add_one_one _
@[simp] theorem popState_pc (s : State) : (s.popState).pc = s.pc := rfl
@[simp] theorem popState_i (s : State) : (s.popState).i = s.i := rfl
@[simp] theorem popState_r (s : State) : (s.popState).r = s.r := rfl
@[simp] theorem popState_im (s : State) : (s.popState).im = s.im := rfl
@[simp] theorem popState_iff1 (s : State) : (s.popState).iff1 = s.iff1 := rfl
@[simp] theorem popState_iff2 (s : State) : (s.popState).iff2 = s.iff2 := rfl
@[simp] theorem popState_halted (s : State) : (s.popState).halted = s.halted := rfl
@[simp] theorem popState_inv (s : State) : (s.popState).inv = s.inv := rfl
@[simp] theorem popState_eiShadow (s : State) : (s.popState).eiShadow = s.eiShadow := rfl
@[simp] theorem popState_hist (s : State) : (s.popState).hist = s.hist := rfl
@[simp] theorem popState_hidx (s : State) : (s.popState).hidx = s.hidx := rfl
@[simp] theorem popState_bus (s : State) : (s.popState).bus = s.bus := rfl
@[simp] theorem popState_params (s : State) : (s.popState).params = s.params := rfl
@[simp] theorem popState_cycles (s : State) : (s.popState).cycles = s.cycles := rfl
@[simp] theorem popState_ioLog (s : State) : (s.popState).ioLog = s.ioLog := rfl
@[simp] theorem popState_ioCount (s : State) : (s.popState).ioCount = s.ioCount := rfl
@[simp] theorem popState_ioScript (s : State) : (s.popState).ioScript = s.ioScript := rfl
@[simp] theorem popState_power (s : State) : (s.popState).power = s.power := rfl
@[simp] theorem popState_faulted (s : State) : (s.popState).faulted = s.faulted := rfl

/-! ## ioAccess -/

@[simp] theorem ioAccess_af (s : State) (ev : IoEvent) : (s.ioAccess ev).af = s.af := rfl
@[simp] theorem ioAccess_bc (s : State) (ev : IoEvent) : (s.ioAccess ev).bc = s.bc := rfl
@[simp] theorem ioAccess_de (s : State) (ev : IoEvent) : (s.ioAccess ev).de = s.de := rfl
@[simp] theorem ioAccess_hl (s : State) (ev : IoEvent) : (s.ioAccess ev).hl = s.hl := rfl
@[simp] theorem ioAccess_wz (s : State) (ev : IoEvent) : (s.ioAccess ev).wz = s.wz := rfl
@[simp] theorem ioAccess_af' (s : State) (ev : IoEvent) : (s.ioAccess ev).af' = s.af' := rfl
@[simp] theorem ioAccess_bc' (s : State) (ev : IoEvent) : (s.ioAccess ev).bc' = s.bc' := rfl
@[simp] theorem ioAccess_de' (s : State) (ev : IoEvent) : (s.ioAccess ev).de' = s.de' := rfl
@[simp] theorem ioAccess_hl' (s : State) (ev : IoEvent) : (s.ioAccess ev).hl' = s.hl' := rfl
@[simp] theorem ioAccess_wz' (s : State) (ev : IoEvent) : (s.ioAccess ev).wz' = s.wz' := rfl
@[simp] theorem ioAccess_ix (s : State) (ev : IoEvent) : (s.ioAccess ev).ix = s.ix := rfl
@[simp] theorem ioAccess_iy (s : State) (ev : IoEvent) : (s.ioAccess ev).iy = s.iy := rfl
@[simp] theorem ioAccess_sp (s : State) (ev : IoEvent) : (s.ioAccess ev).sp = s.sp := rfl
@[simp] theorem ioAccess_pc (s : State) (ev : IoEvent) : (s.ioAccess ev).pc = s.pc := rfl
@[simp] theorem ioAccess_i (s : State) (ev : IoEvent) : (s.ioAccess ev).i = s.i := rfl
@[simp] theorem ioAccess_r (s : State) (ev : IoEvent) : (s.ioAccess ev).r = s.r := rfl
@[simp] theorem ioAccess_im (s : State) (ev : IoEvent) : (s.ioAccess ev).im = s.im := rfl
@[simp] theorem ioAccess_iff1 (s : State) (ev : IoEvent) : (s.ioAccess ev).iff1 = s.iff1 := rfl
@[simp] theorem ioAccess_iff2 (s : State) (ev : IoEvent) : (s.ioAccess ev).iff2 = s.iff2 := rfl
@[simp] theorem ioAccess_halted (s : State) (ev : IoEvent) :
    (s.ioAccess ev).halted = s.halted := rfl
@[simp] theorem ioAccess_inv (s : State) (ev : IoEvent) : (s.ioAccess ev).inv = s.inv := rfl
@[simp] theorem ioAccess_eiShadow (s : State) (ev : IoEvent) :
    (s.ioAccess ev).eiShadow = s.eiShadow := rfl
@[simp] theorem ioAccess_hist (s : State) (ev : IoEvent) : (s.ioAccess ev).hist = s.hist := rfl
@[simp] theorem ioAccess_hidx (s : State) (ev : IoEvent) : (s.ioAccess ev).hidx = s.hidx := rfl
@[simp] theorem ioAccess_bus (s : State) (ev : IoEvent) :
    (s.ioAccess ev).bus = s.nextReply.actions.foldl Bus.handle s.bus := rfl
@[simp] theorem ioAccess_params (s : State) (ev : IoEvent) :
    (s.ioAccess ev).params = s.params := rfl
@[simp] theorem ioAccess_cycles (s : State) (ev : IoEvent) :
    (s.ioAccess ev).cycles = s.cycles := rfl
@[simp] theorem ioAccess_ioLog (s : State) (ev : IoEvent) :
    (s.ioAccess ev).ioLog = ev :: s.ioLog := rfl
@[simp] theorem ioAccess_ioCount (s : State) (ev : IoEvent) :
    (s.ioAccess ev).ioCount = s.ioCount + 1 := rfl
@[simp] theorem ioAccess_ioScript (s : State) (ev : IoEvent) :
    (s.ioAccess ev).ioScript = s.ioScript.tail := rfl
@[simp] theorem ioAccess_power (s : State) (ev : IoEvent) : (s.ioAccess ev).power = s.power := rfl
@[simp] theorem ioAccess_faulted (s : State) (ev : IoEvent) :
    (s.ioAccess ev).faulted = s.faulted := rfl

/-! ## ioRead -/

@[simp] theorem ioRead_af (s : State) (port : Word) : (s.ioRead port).af = s.af := rfl
@[simp] theorem ioRead_bc (s : State) (port : Word) : (s.ioRead port).bc = s.bc := rfl
@[simp] theorem ioRead_de (s : State) (port : Word) : (s.ioRead port).de = s.de := rfl
@[simp] theorem ioRead_hl (s : State) (port : Word) : (s.ioRead port).hl = s.hl := rfl
@[simp] theorem ioRead_wz (s : State) (port : Word) : (s.ioRead port).wz = s.wz := rfl
@[simp] theorem ioRead_af' (s : State) (port : Word) : (s.ioRead port).af' = s.af' := rfl
@[simp] theorem ioRead_bc' (s : State) (port : Word) : (s.ioRead port).bc' = s.bc' := rfl
@[simp] theorem ioRead_de' (s : State) (port : Word) : (s.ioRead port).de' = s.de' := rfl
@[simp] theorem ioRead_hl' (s : State) (port : Word) : (s.ioRead port).hl' = s.hl' := rfl
@[simp] theorem ioRead_wz' (s : State) (port : Word) : (s.ioRead port).wz' = s.wz' := rfl
@[simp] theorem ioRead_ix (s : State) (port : Word) : (s.ioRead port).ix = s.ix := rfl
@[simp] theorem ioRead_iy (s : State) (port : Word) : (s.ioRead port).iy = s.iy := rfl
@[simp] theorem ioRead_sp (s : State) (port : Word) : (s.ioRead port).sp = s.sp := rfl
@[simp] theorem ioRead_pc (s : State) (port : Word) : (s.ioRead port).pc = s.pc := rfl
@[simp] theorem ioRead_i (s : State) (port : Word) : (s.ioRead port).i = s.i := rfl
@[simp] theorem ioRead_r (s : State) (port : Word) : (s.ioRead port).r = s.r := rfl
@[simp] theorem ioRead_im (s : State) (port : Word) : (s.ioRead port).im = s.im := rfl
@[simp] theorem ioRead_iff1 (s : State) (port : Word) : (s.ioRead port).iff1 = s.iff1 := rfl
@[simp] theorem ioRead_iff2 (s : State) (port : Word) : (s.ioRead port).iff2 = s.iff2 := rfl
@[simp] theorem ioRead_halted (s : State) (port : Word) : (s.ioRead port).halted = s.halted := rfl
@[simp] theorem ioRead_inv (s : State) (port : Word) : (s.ioRead port).inv = s.inv := rfl
@[simp] theorem ioRead_eiShadow (s : State) (port : Word) :
    (s.ioRead port).eiShadow = s.eiShadow := rfl
@[simp] theorem ioRead_hist (s : State) (port : Word) : (s.ioRead port).hist = s.hist := rfl
@[simp] theorem ioRead_hidx (s : State) (port : Word) : (s.ioRead port).hidx = s.hidx := rfl
@[simp] theorem ioRead_bus (s : State) (port : Word) :
    (s.ioRead port).bus = s.nextReply.actions.foldl Bus.handle s.bus := rfl
@[simp] theorem ioRead_params (s : State) (port : Word) : (s.ioRead port).params = s.params := rfl
@[simp] theorem ioRead_cycles (s : State) (port : Word) : (s.ioRead port).cycles = s.cycles := rfl
@[simp] theorem ioRead_ioLog (s : State) (port : Word) :
    (s.ioRead port).ioLog = .read port s.ioReadValue :: s.ioLog := rfl
@[simp] theorem ioRead_ioCount (s : State) (port : Word) :
    (s.ioRead port).ioCount = s.ioCount + 1 := rfl
@[simp] theorem ioRead_ioScript (s : State) (port : Word) :
    (s.ioRead port).ioScript = s.ioScript.tail := rfl
@[simp] theorem ioRead_power (s : State) (port : Word) : (s.ioRead port).power = s.power := rfl
@[simp] theorem ioRead_faulted (s : State) (port : Word) :
    (s.ioRead port).faulted = s.faulted := rfl

/-! ## ioWrite -/

@[simp] theorem ioWrite_af (s : State) (port : Word) (v : Byte) :
    (s.ioWrite port v).af = s.af := rfl
@[simp] theorem ioWrite_bc (s : State) (port : Word) (v : Byte) :
    (s.ioWrite port v).bc = s.bc := rfl
@[simp] theorem ioWrite_de (s : State) (port : Word) (v : Byte) :
    (s.ioWrite port v).de = s.de := rfl
@[simp] theorem ioWrite_hl (s : State) (port : Word) (v : Byte) :
    (s.ioWrite port v).hl = s.hl := rfl
@[simp] theorem ioWrite_wz (s : State) (port : Word) (v : Byte) :
    (s.ioWrite port v).wz = s.wz := rfl
@[simp] theorem ioWrite_af' (s : State) (port : Word) (v : Byte) :
    (s.ioWrite port v).af' = s.af' := rfl
@[simp] theorem ioWrite_bc' (s : State) (port : Word) (v : Byte) :
    (s.ioWrite port v).bc' = s.bc' := rfl
@[simp] theorem ioWrite_de' (s : State) (port : Word) (v : Byte) :
    (s.ioWrite port v).de' = s.de' := rfl
@[simp] theorem ioWrite_hl' (s : State) (port : Word) (v : Byte) :
    (s.ioWrite port v).hl' = s.hl' := rfl
@[simp] theorem ioWrite_wz' (s : State) (port : Word) (v : Byte) :
    (s.ioWrite port v).wz' = s.wz' := rfl
@[simp] theorem ioWrite_ix (s : State) (port : Word) (v : Byte) :
    (s.ioWrite port v).ix = s.ix := rfl
@[simp] theorem ioWrite_iy (s : State) (port : Word) (v : Byte) :
    (s.ioWrite port v).iy = s.iy := rfl
@[simp] theorem ioWrite_sp (s : State) (port : Word) (v : Byte) :
    (s.ioWrite port v).sp = s.sp := rfl
@[simp] theorem ioWrite_pc (s : State) (port : Word) (v : Byte) :
    (s.ioWrite port v).pc = s.pc := rfl
@[simp] theorem ioWrite_i (s : State) (port : Word) (v : Byte) : (s.ioWrite port v).i = s.i := rfl
@[simp] theorem ioWrite_r (s : State) (port : Word) (v : Byte) : (s.ioWrite port v).r = s.r := rfl
@[simp] theorem ioWrite_im (s : State) (port : Word) (v : Byte) :
    (s.ioWrite port v).im = s.im := rfl
@[simp] theorem ioWrite_iff1 (s : State) (port : Word) (v : Byte) :
    (s.ioWrite port v).iff1 = s.iff1 := rfl
@[simp] theorem ioWrite_iff2 (s : State) (port : Word) (v : Byte) :
    (s.ioWrite port v).iff2 = s.iff2 := rfl
@[simp] theorem ioWrite_halted (s : State) (port : Word) (v : Byte) :
    (s.ioWrite port v).halted = s.halted := rfl
@[simp] theorem ioWrite_inv (s : State) (port : Word) (v : Byte) :
    (s.ioWrite port v).inv = s.inv := rfl
@[simp] theorem ioWrite_eiShadow (s : State) (port : Word) (v : Byte) :
    (s.ioWrite port v).eiShadow = s.eiShadow := rfl
@[simp] theorem ioWrite_hist (s : State) (port : Word) (v : Byte) :
    (s.ioWrite port v).hist = s.hist := rfl
@[simp] theorem ioWrite_hidx (s : State) (port : Word) (v : Byte) :
    (s.ioWrite port v).hidx = s.hidx := rfl
@[simp] theorem ioWrite_bus (s : State) (port : Word) (v : Byte) :
    (s.ioWrite port v).bus = s.nextReply.actions.foldl Bus.handle s.bus := rfl
@[simp] theorem ioWrite_params (s : State) (port : Word) (v : Byte) :
    (s.ioWrite port v).params = s.params := rfl
@[simp] theorem ioWrite_cycles (s : State) (port : Word) (v : Byte) :
    (s.ioWrite port v).cycles = s.cycles := rfl
@[simp] theorem ioWrite_ioLog (s : State) (port : Word) (v : Byte) :
    (s.ioWrite port v).ioLog = .write port v :: s.ioLog := rfl
@[simp] theorem ioWrite_ioCount (s : State) (port : Word) (v : Byte) :
    (s.ioWrite port v).ioCount = s.ioCount + 1 := rfl
@[simp] theorem ioWrite_ioScript (s : State) (port : Word) (v : Byte) :
    (s.ioWrite port v).ioScript = s.ioScript.tail := rfl
@[simp] theorem ioWrite_power (s : State) (port : Word) (v : Byte) :
    (s.ioWrite port v).power = s.power := rfl
@[simp] theorem ioWrite_faulted (s : State) (port : Word) (v : Byte) :
    (s.ioWrite port v).faulted = s.faulted := rfl

/-! ## The register accessors after updates of other registers -/

@[simp] theorem a_setWZ (s : State) (v : Word) :
    (s.setWZ v).a = s.a := rfl
@[simp] theorem f_setWZ (s : State) (v : Word) :
    (s.setWZ v).f = s.f := rfl
@[simp] theorem flags_setWZ (s : State) (v : Word) :
    (s.setWZ v).flags = s.flags := rfl
@[simp] theorem reg8_setWZ (s : State) (v : Word) (q : Reg8) :
    (s.setWZ v).reg8 q = s.reg8 q := by cases q <;> rfl
@[simp] theorem idx_setWZ (s : State) (v : Word) (y : Idx) :
    (s.setWZ v).idx y = s.idx y := by cases y <;> rfl
@[simp] theorem half_setWZ (s : State) (v : Word) (y : Idx) (j : Half) :
    (s.setWZ v).half y j = s.half y j := by cases y <;> cases j <;> rfl
@[simp] theorem pairSS_setWZ (s : State) (v : Word) (q : PairSS) :
    (s.setWZ v).pairSS q = s.pairSS q := by cases q <;> rfl
@[simp] theorem pairQQ_setWZ (s : State) (v : Word) (q : PairQQ) :
    (s.setWZ v).pairQQ q = s.pairQQ q := by cases q <;> rfl
@[simp] theorem pairPP_setWZ (s : State) (v : Word) (y : Idx) (q : PairPP) :
    (s.setWZ v).pairPP y q = s.pairPP y q := by cases y <;> cases q <;> rfl
@[simp] theorem read8_setWZ (s : State) (v : Word) (c : Word) :
    (s.setWZ v).read8 c = s.read8 c := rfl
@[simp] theorem a_setPC (s : State) (v : Word) :
    (s.setPC v).a = s.a := rfl
@[simp] theorem f_setPC (s : State) (v : Word) :
    (s.setPC v).f = s.f := rfl
@[simp] theorem flags_setPC (s : State) (v : Word) :
    (s.setPC v).flags = s.flags := rfl
@[simp] theorem reg8_setPC (s : State) (v : Word) (q : Reg8) :
    (s.setPC v).reg8 q = s.reg8 q := by cases q <;> rfl
@[simp] theorem idx_setPC (s : State) (v : Word) (y : Idx) :
    (s.setPC v).idx y = s.idx y := by cases y <;> rfl
@[simp] theorem half_setPC (s : State) (v : Word) (y : Idx) (j : Half) :
    (s.setPC v).half y j = s.half y j := by cases y <;> cases j <;> rfl
@[simp] theorem pairSS_setPC (s : State) (v : Word) (q : PairSS) :
    (s.setPC v).pairSS q = s.pairSS q := by cases q <;> rfl
@[simp] theorem pairQQ_setPC (s : State) (v : Word) (q : PairQQ) :
    (s.setPC v).pairQQ q = s.pairQQ q := by cases q <;> rfl
@[simp] theorem pairPP_setPC (s : State) (v : Word) (y : Idx) (q : PairPP) :
    (s.setPC v).pairPP y q = s.pairPP y q := by cases y <;> cases q <;> rfl
@[simp] theorem read8_setPC (s : State) (v : Word) (c : Word) :
    (s.setPC v).read8 c = s.read8 c := rfl
@[simp] theorem a_setCycles (s : State) (n : Nat) :
    (s.setCycles n).a = s.a := rfl
@[simp] theorem f_setCycles (s : State) (n : Nat) :
    (s.setCycles n).f = s.f := rfl
@[simp] theorem flags_setCycles (s : State) (n : Nat) :
    (s.setCycles n).flags = s.flags := rfl
@[simp] theorem reg8_setCycles (s : State) (n : Nat) (q : Reg8) :
    (s.setCycles n).reg8 q = s.reg8 q := by cases q <;> rfl
@[simp] theorem idx_setCycles (s : State) (n : Nat) (y : Idx) :
    (s.setCycles n).idx y = s.idx y := by cases y <;> rfl
@[simp] theorem half_setCycles (s : State) (n : Nat) (y : Idx) (j : Half) :
    (s.setCycles n).half y j = s.half y j := by cases y <;> cases j <;> rfl
@[simp] theorem pairSS_setCycles (s : State) (n : Nat) (q : PairSS) :
    (s.setCycles n).pairSS q = s.pairSS q := by cases q <;> rfl
@[simp] theorem pairQQ_setCycles (s : State) (n : Nat) (q : PairQQ) :
    (s.setCycles n).pairQQ q = s.pairQQ q := by cases q <;> rfl
@[simp] theorem pairPP_setCycles (s : State) (n : Nat) (y : Idx) (q : PairPP) :
    (s.setCycles n).pairPP y q = s.pairPP y q := by cases y <;> cases q <;> rfl
@[simp] theorem read8_setCycles (s : State) (n : Nat) (c : Word) :
    (s.setCycles n).read8 c = s.read8 c := rfl
@[simp] theorem a_setIdx (s : State) (x : Idx) (v : Word) :
    (s.setIdx x v).a = s.a := by cases x <;> rfl
@[simp] theorem f_setIdx (s : State) (x : Idx) (v : Word) :
    (s.setIdx x v).f = s.f := by cases x <;> rfl
@[simp] theorem flags_setIdx (s : State) (x : Idx) (v : Word) :
    (s.setIdx x v).flags = s.flags := by cases x <;> rfl
@[simp] theorem reg8_setIdx (s : State) (x : Idx) (v : Word) (q : Reg8) :
    (s.setIdx x v).reg8 q = s.reg8 q := by cases x <;> cases q <;> rfl
@[simp] theorem pairSS_setIdx (s : State) (x : Idx) (v : Word) (q : PairSS) :
    (s.setIdx x v).pairSS q = s.pairSS q := by cases x <;> cases q <;> rfl
@[simp] theorem pairQQ_setIdx (s : State) (x : Idx) (v : Word) (q : PairQQ) :
    (s.setIdx x v).pairQQ q = s.pairQQ q := by cases x <;> cases q <;> rfl
@[simp] theorem read8_setIdx (s : State) (x : Idx) (v : Word) (c : Word) :
    (s.setIdx x v).read8 c = s.read8 c := by cases x <;> rfl
@[simp] theorem a_setHalf (s : State) (x : Idx) (k : Half) (v : Byte) :
    (s.setHalf x k v).a = s.a := by cases x <;> cases k <;> rfl
@[simp] theorem f_setHalf (s : State) (x : Idx) (k : Half) (v : Byte) :
    (s.setHalf x k v).f = s.f := by cases x <;> cases k <;> rfl
@[simp] theorem flags_setHalf (s : State) (x : Idx) (k : Half) (v : Byte) :
    (s.setHalf x k v).flags = s.flags := by cases x <;> cases k <;> rfl
@[simp] theorem reg8_setHalf (s : State) (x : Idx) (k : Half) (v : Byte) (q : Reg8) :
    (s.setHalf x k v).reg8 q = s.reg8 q := by cases x <;> cases k <;> cases q <;> rfl
@[simp] theorem pairSS_setHalf (s : State) (x : Idx) (k : Half) (v : Byte) (q : PairSS) :
    (s.setHalf x k v).pairSS q = s.pairSS q := by cases x <;> cases k <;> cases q <;> rfl
@[simp] theorem pairQQ_setHalf (s : State) (x : Idx) (k : Half) (v : Byte) (q : PairQQ) :
    (s.setHalf x k v).pairQQ q = s.pairQQ q := by cases x <;> cases k <;> cases q <;> rfl
@[simp] theorem read8_setHalf (s : State) (x : Idx) (k : Half) (v : Byte) (c : Word) :
    (s.setHalf x k v).read8 c = s.read8 c := by cases x <;> cases k <;> rfl
@[simp] theorem a_write8 (s : State) (a : Word) (v : Byte) :
    (s.write8 a v).a = s.a := rfl
@[simp] theorem f_write8 (s : State) (a : Word) (v : Byte) :
    (s.write8 a v).f = s.f := rfl
@[simp] theorem flags_write8 (s : State) (a : Word) (v : Byte) :
    (s.write8 a v).flags = s.flags := rfl
@[simp] theorem reg8_write8 (s : State) (a : Word) (v : Byte) (q : Reg8) :
    (s.write8 a v).reg8 q = s.reg8 q := by cases q <;> rfl
@[simp] theorem idx_write8 (s : State) (a : Word) (v : Byte) (y : Idx) :
    (s.write8 a v).idx y = s.idx y := by cases y <;> rfl
@[simp] theorem half_write8 (s : State) (a : Word) (v : Byte) (y : Idx) (j : Half) :
    (s.write8 a v).half y j = s.half y j := by cases y <;> cases j <;> rfl
@[simp] theorem pairSS_write8 (s : State) (a : Word) (v : Byte) (q : PairSS) :
    (s.write8 a v).pairSS q = s.pairSS q := by cases q <;> rfl
@[simp] theorem pairQQ_write8 (s : State) (a : Word) (v : Byte) (q : PairQQ) :
    (s.write8 a v).pairQQ q = s.pairQQ q := by cases q <;> rfl
@[simp] theorem pairPP_write8 (s : State) (a : Word) (v : Byte) (y : Idx) (q : PairPP) :
    (s.write8 a v).pairPP y q = s.pairPP y q := by cases y <;> cases q <;> rfl
@[simp] theorem a_write16 (s : State) (a v : Word) :
    (s.write16 a v).a = s.a := rfl
@[simp] theorem f_write16 (s : State) (a v : Word) :
    (s.write16 a v).f = s.f := rfl
@[simp] theorem flags_write16 (s : State) (a v : Word) :
    (s.write16 a v).flags = s.flags := rfl
@[simp] theorem reg8_write16 (s : State) (a v : Word) (q : Reg8) :
    (s.write16 a v).reg8 q = s.reg8 q := by cases q <;> rfl
@[simp] theorem idx_write16 (s : State) (a v : Word) (y : Idx) :
    (s.write16 a v).idx y = s.idx y := by cases y <;> rfl
@[simp] theorem half_write16 (s : State) (a v : Word) (y : Idx) (j : Half) :
    (s.write16 a v).half y j = s.half y j := by cases y <;> cases j <;> rfl
@[simp] theorem pairSS_write16 (s : State) (a v : Word) (q : PairSS) :
    (s.write16 a v).pairSS q = s.pairSS q := by cases q <;> rfl
@[simp] theorem pairQQ_write16 (s : State) (a v : Word) (q : PairQQ) :
    (s.write16 a v).pairQQ q = s.pairQQ q := by cases q <;> rfl
@[simp] theorem pairPP_write16 (s : State) (a v : Word) (y : Idx) (q : PairPP) :
    (s.write16 a v).pairPP y q = s.pairPP y q := by cases y <;> cases q <;> rfl

/-! ## A register read after a register write -/

@[simp] theorem reg8_setReg8 (s : State) (r : Reg8) (v : Byte) : (s.setReg8 r v).reg8 r = v := by
  cases r <;> simp [setReg8, reg8]

theorem reg8_setReg8_ne (s : State) (r q : Reg8) (v : Byte) (h : q ≠ r) :
    (s.setReg8 r v).reg8 q = s.reg8 q := by
  cases r <;> cases q <;> first | exact absurd rfl h | simp [setReg8, reg8]

@[simp] theorem f_setReg8 (s : State) (r : Reg8) (v : Byte) : (s.setReg8 r v).f = s.f := by
  cases r <;> simp [setReg8, f]

@[simp] theorem pairSS_setPairSS (s : State) (p : PairSS) (v : Word) :
    (s.setPairSS p v).pairSS p = v := by
  cases p <;> rfl

@[simp] theorem pairQQ_setPairQQ (s : State) (p : PairQQ) (v : Word) :
    (s.setPairQQ p v).pairQQ p = v := by
  cases p <;> rfl

@[simp] theorem idx_setIdx (s : State) (x : Idx) (v : Word) : (s.setIdx x v).idx x = v := by
  cases x <;> rfl

@[simp] theorem half_setHalf (s : State) (x : Idx) (k : Half) (v : Byte) :
    (s.setHalf x k v).half x k = v := by
  cases x <;> cases k <;> simp [setHalf, half, setIdx, idx]

@[simp] theorem flags_setReg8 (s : State) (r : Reg8) (v : Byte) : (s.setReg8 r v).flags = s.flags := by
  simp [flags]

@[simp] theorem flags_setFlags (s : State) (f : Flags) : (s.setFlags f).flags = f := by
  simp [setFlags, flags, State.f]

@[simp] theorem a_setA (s : State) (v : Byte) : (s.setA v).a = v := by simp [setA, a]

@[simp] theorem f_setA (s : State) (v : Byte) : (s.setA v).f = s.f := by simp [setA, State.f]

@[simp] theorem a_setFlags (s : State) (f : Flags) : (s.setFlags f).a = s.a := by
  simp [setFlags, a]

@[simp] theorem a_setAF (s : State) (v : Byte × Flags) : (s.setAF v).a = v.1 := by
  simp [setAF, a]

@[simp] theorem flags_setAF (s : State) (v : Byte × Flags) : (s.setAF v).flags = v.2 := by
  simp [setAF, flags, State.f]

@[simp] theorem f_setFlags (s : State) (f : Flags) : (s.setFlags f).f = f.toByte := by
  simp [setFlags, State.f]

@[simp] theorem f_setAF (s : State) (v : Byte × Flags) : (s.setAF v).f = v.2.toByte := by
  simp [setAF, State.f]

@[simp] theorem reg8_setFlags (s : State) (r : Reg8) (f : Flags) :
    (s.setFlags f).reg8 r = s.reg8 r := by
  cases r <;> simp [setFlags, reg8]

@[simp] theorem idx_setFlags (s : State) (x : Idx) (f : Flags) : (s.setFlags f).idx x = s.idx x := by
  cases x <;> rfl

@[simp] theorem half_setFlags (s : State) (x : Idx) (k : Half) (f : Flags) :
    (s.setFlags f).half x k = s.half x k := by
  cases x <;> cases k <;> rfl

@[simp] theorem pairSS_setFlags (s : State) (p : PairSS) (f : Flags) :
    (s.setFlags f).pairSS p = s.pairSS p := by
  cases p <;> rfl

@[simp] theorem idx_setAF (s : State) (x : Idx) (v : Byte × Flags) : (s.setAF v).idx x = s.idx x := by
  cases x <;> rfl

@[simp] theorem half_setAF (s : State) (x : Idx) (k : Half) (v : Byte × Flags) :
    (s.setAF v).half x k = s.half x k := by
  cases x <;> cases k <;> rfl

@[simp] theorem idx_setReg8 (s : State) (x : Idx) (r : Reg8) (v : Byte) :
    (s.setReg8 r v).idx x = s.idx x := by
  cases x <;> cases r <;> rfl

@[simp] theorem half_setReg8 (s : State) (x : Idx) (k : Half) (r : Reg8) (v : Byte) :
    (s.setReg8 r v).half x k = s.half x k := by
  cases x <;> cases k <;> cases r <;> rfl

@[simp] theorem read8_setFlags (s : State) (f : Flags) (c : Word) : (s.setFlags f).read8 c = s.read8 c :=
  rfl

@[simp] theorem read8_setAF (s : State) (v : Byte × Flags) (c : Word) :
    (s.setAF v).read8 c = s.read8 c := rfl

@[simp] theorem read8_setReg8 (s : State) (r : Reg8) (v : Byte) (c : Word) :
    (s.setReg8 r v).read8 c = s.read8 c := by
  cases r <;> rfl

/-! ## The WZ latch of an (XY+d) operand -/

@[simp] theorem latchEA_wz (s : State) (x : Idx) (d : Byte) : (latchEA x d s).wz = effAddr x d s := rfl

@[simp] theorem latchEA_bus (s : State) (x : Idx) (d : Byte) : (latchEA x d s).bus = s.bus := rfl

@[simp] theorem a_latchEA (s : State) (x : Idx) (d : Byte) : (latchEA x d s).a = s.a := rfl

@[simp] theorem f_latchEA (s : State) (x : Idx) (d : Byte) : (latchEA x d s).f = s.f := rfl

@[simp] theorem flags_latchEA (s : State) (x : Idx) (d : Byte) : (latchEA x d s).flags = s.flags := rfl

@[simp] theorem reg8_latchEA (s : State) (x : Idx) (d : Byte) (r : Reg8) :
    (latchEA x d s).reg8 r = s.reg8 r := by
  cases r <;> rfl

@[simp] theorem read8_latchEA (s : State) (x : Idx) (d : Byte) (c : Word) :
    (latchEA x d s).read8 c = s.read8 c := rfl

end Sys2Proof.Machine.State
end

