-- ==== Sys2Proof/Laws/Memory.lean ====
section
/-! SUPPORT. The laws of memory: a read after a write, the canonical form every memory operation keeps,
and a page map that stays inside its stores. -/

namespace Sys2Proof.Machine

/-! ## One store's cells -/

theorem cellsRead_below {bound low : Nat} {cells : List Host.Cell} {k : Nat}
    (w : cellsWf bound low cells = true) (h : k < low) : cellsRead cells k = Config.storeFill := by
  induction cells generalizing low with
  | nil => rfl
  | cons c t ih =>
    obtain ⟨a, v⟩ := c
    simp only [cellsWf, Bool.and_eq_true, decide_eq_true_eq] at w
    rw [cellsRead, if_neg (by omega)]
    exact ih w.2 (by omega)

theorem cellsRead_cellsWrite_ne (cells : List Host.Cell) {k j : Nat} (v : Byte) (h : j ≠ k) :
    cellsRead (cellsWrite cells k v) j = cellsRead cells j := by
  induction cells with
  | nil =>
    by_cases e : v = Config.storeFill
    · simp [cellsWrite, e]
    · simp [cellsWrite, e, cellsRead, Ne.symm h]
  | cons c t ih =>
    obtain ⟨a, b⟩ := c
    simp only [cellsWrite]
    split
    · split
      · rfl
      · simp [cellsRead, Ne.symm h]
    · split
      · rename_i e
        split <;> simp [cellsRead, e, Ne.symm h]
      · simp [cellsRead, ih]

theorem cellsRead_cellsWrite_same {bound low : Nat} {cells : List Host.Cell} (k : Nat) (v : Byte)
    (w : cellsWf bound low cells = true) : cellsRead (cellsWrite cells k v) k = v := by
  induction cells generalizing low with
  | nil =>
    by_cases e : v = Config.storeFill <;> simp [cellsWrite, e, cellsRead]
  | cons c t ih =>
    obtain ⟨a, b⟩ := c
    have w' := w
    simp only [cellsWf, Bool.and_eq_true, decide_eq_true_eq] at w'
    simp only [cellsWrite]
    split
    · split
      · rename_i h e
        rw [cellsRead, if_neg (by omega), e]
        exact cellsRead_below w'.2 (by omega)
      · simp [cellsRead]
    · split
      · rename_i e
        split
        · rename_i f
          rw [f]
          exact cellsRead_below w'.2 (by omega)
        · simp [cellsRead]
      · rename_i n
        rw [cellsRead, if_neg n]
        exact ih w'.2

theorem cellsWf_mono {bound low low' : Nat} {cells : List Host.Cell} (h : low' ≤ low)
    (w : cellsWf bound low cells = true) : cellsWf bound low' cells = true := by
  cases cells with
  | nil => rfl
  | cons c t =>
    obtain ⟨a, v⟩ := c
    simp only [cellsWf, Bool.and_eq_true, decide_eq_true_eq] at w ⊢
    exact ⟨⟨⟨by omega, w.1.1.2⟩, w.1.2⟩, w.2⟩

theorem cellsWf_cellsWrite {bound low : Nat} {cells : List Host.Cell} {k : Nat} (v : Byte)
    (w : cellsWf bound low cells = true) (hl : low ≤ k) (hb : k < bound) :
    cellsWf bound low (cellsWrite cells k v) = true := by
  induction cells generalizing low with
  | nil =>
    by_cases e : v = Config.storeFill <;> simp [cellsWrite, e, cellsWf, hl, hb]
  | cons c t ih =>
    obtain ⟨a, b⟩ := c
    have w' := w
    simp only [cellsWf, Bool.and_eq_true, decide_eq_true_eq, bne_iff_ne] at w'
    simp only [cellsWrite]
    split
    · split
      · exact w
      · rename_i h e
        simp only [cellsWf, Bool.and_eq_true, decide_eq_true_eq, bne_iff_ne]
        exact ⟨⟨⟨hl, hb⟩, e⟩, ⟨⟨by omega, w'.1.1.2⟩, w'.1.2⟩, w'.2⟩
    · split
      · rename_i e
        split
        · exact cellsWf_mono (by omega) w'.2
        · rename_i f
          simp only [cellsWf, Bool.and_eq_true, decide_eq_true_eq, bne_iff_ne]
          exact ⟨⟨⟨hl, hb⟩, f⟩, e ▸ w'.2⟩
      · simp only [cellsWf, Bool.and_eq_true, decide_eq_true_eq, bne_iff_ne]
        exact ⟨⟨⟨w'.1.1.1, w'.1.1.2⟩, w'.1.2⟩, ih w'.2 (by omega)⟩

/-! ## The stores -/

@[simp] theorem length_storesWrite (stores : List Store) (n k : Nat) (v : Byte) :
    (storesWrite stores n k v).length = stores.length := by
  unfold storesWrite
  split
  · split <;> simp
  · rfl

/-- A write leaves every store's size. -/
@[simp] theorem sizes_storesWrite (stores : List Store) (n k : Nat) (v : Byte) :
    (storesWrite stores n k v).map Store.size = stores.map Store.size := by
  unfold storesWrite
  split
  · rename_i st h
    split
    · apply List.ext_getElem?
      intro j
      by_cases e : n = j
      · subst e
        obtain ⟨hn, rfl⟩ := List.getElem?_eq_some_iff.mp h
        simp [hn]
      · simp [e]
    · rfl
  · rfl

/-- A read of another store byte does not see the write. -/
theorem storesRead_storesWrite_ne (stores : List Store) {n k m j : Nat} (v : Byte)
    (h : ¬(m = n ∧ j = k)) : storesRead (storesWrite stores n k v) m j = storesRead stores m j := by
  unfold storesWrite
  split
  · rename_i st hst
    split
    · by_cases e : n = m
      · subst e
        obtain ⟨hn, rfl⟩ := List.getElem?_eq_some_iff.mp hst
        have hk : j ≠ k := fun q => h ⟨rfl, q⟩
        simp [storesRead, hn, cellsRead_cellsWrite_ne _ _ hk]
      · simp [storesRead, e]
    · rfl
  · rfl

/-- A read of the written store byte sees the write, where the store has that byte. -/
theorem storesRead_storesWrite_same {stores : List Store} {n k : Nat} {st : Store} (v : Byte)
    (w : stores.all Store.wf = true) (hst : stores[n]? = some st) (hk : k < st.size) :
    storesRead (storesWrite stores n k v) n k = v := by
  have hw : st.wf = true := List.all_eq_true.mp w st (List.mem_of_getElem? hst)
  obtain ⟨hn, rfl⟩ := List.getElem?_eq_some_iff.mp hst
  simp [storesWrite, storesRead, hk, hn, cellsRead_cellsWrite_same k v hw]

theorem storesWf_storesWrite {stores : List Store} (n k : Nat) (v : Byte)
    (w : stores.all Store.wf = true) : (storesWrite stores n k v).all Store.wf = true := by
  unfold storesWrite
  split
  · rename_i st hst
    split
    · rename_i hk
      rw [List.all_eq_true]
      intro x hx
      rcases List.mem_or_eq_of_mem_set hx with h | h
      · exact List.all_eq_true.mp w x h
      · subst h
        exact cellsWf_cellsWrite v (List.all_eq_true.mp w st (List.mem_of_getElem? hst)) (by omega) hk
    · exact w
  · exact w

/-! ## The page map -/

namespace Bus

/-- Whether a descriptor fits depends on the stores' sizes only. -/
theorem sourceFits_congr {b c : Bus} (h : b.stores.map Store.size = c.stores.map Store.size)
    (count : Nat) (source : PageSource) : b.sourceFits count source = c.sourceFits count source := by
  cases source with
  | unmapped => rfl
  | mapped n base ro =>
    have e : (b.stores[n]?).map Store.size = (c.stores[n]?).map Store.size := by
      rw [← List.getElem?_map, ← List.getElem?_map, h]
    simp only [sourceFits]
    cases hb : b.stores[n]? <;> cases hc : c.stores[n]? <;> simp_all

theorem wf_iff (b : Bus) :
    b.wf = true ↔ b.map.length = Config.nPages ∧ (∀ m ∈ b.map, b.sourceFits 1 m = true) ∧
      b.stores.all Store.wf = true := by
  simp [wf, List.all_eq_true, and_assoc]

/-- Well-formedness looks at the map, the stores' sizes and the stores' cells. -/
theorem wf_of {b c : Bus} (w : b.wf = true) (hm : c.map = b.map)
    (hs : c.stores.map Store.size = b.stores.map Store.size)
    (hw : c.stores.all Store.wf = true) : c.wf = true := by
  rw [wf_iff] at w ⊢
  refine ⟨hm ▸ w.1, fun m h => ?_, hw⟩
  rw [sourceFits_congr hs]
  exact w.2.1 m (hm ▸ h)

@[simp] theorem map_write8 (b : Bus) (a : Word) (v : Byte) : (b.write8 a v).map = b.map := by
  unfold write8
  split
  · rfl
  · split <;> rfl

@[simp] theorem chain_write8 (b : Bus) (a : Word) (v : Byte) : (b.write8 a v).chain = b.chain := by
  unfold write8
  split
  · rfl
  · split <;> rfl

@[simp] theorem intPending_write8 (b : Bus) (a : Word) (v : Byte) :
    (b.write8 a v).intPending = b.intPending := by
  unfold write8
  split
  · rfl
  · split <;> rfl

@[simp] theorem sizes_write8 (b : Bus) (a : Word) (v : Byte) :
    (b.write8 a v).stores.map Store.size = b.stores.map Store.size := by
  unfold write8
  split
  · rfl
  · split
    · rfl
    · exact sizes_storesWrite _ _ _ _

@[simp] theorem locate_write8 (b : Bus) (a c : Word) (v : Byte) :
    (b.write8 a v).locate c = b.locate c := by
  simp [locate, pageSource]

theorem wf_write8 {b : Bus} (a : Word) (v : Byte) (w : b.wf = true) : (b.write8 a v).wf = true := by
  refine wf_of w (by simp) (by simp) ?_
  have hs := ((wf_iff b).mp w).2.2
  unfold write8
  split
  · exact hs
  · split
    · exact hs
    · exact storesWf_storesWrite _ _ _ hs

/-- A located byte of a well-formed bus lies in its store. -/
theorem located_in_store {b : Bus} {a : Word} {l : Location} (w : b.wf = true)
    (h : b.locate a = some l) : ∃ st, b.stores[l.store]? = some st ∧ l.index < st.size := by
  unfold locate at h
  split at h
  · exact absurd h (by simp)
  · rename_i n base ro e
    have hm : PageSource.mapped n base ro ∈ b.map := by
      unfold pageSource at e
      cases q : b.map[pageOf a]? with
      | none => rw [q] at e; exact absurd e (by simp)
      | some m =>
        rw [q, Option.getD_some] at e
        exact e ▸ List.mem_of_getElem? q
    have f := ((wf_iff b).mp w).2.1 _ hm
    obtain rfl := Option.some.inj h
    simp only [sourceFits] at f
    split at f
    · rename_i st hst
      have := Nat.mod_lt a.toNat (show 0 < Config.pageSize by decide)
      exact ⟨st, hst, by simp only [decide_eq_true_eq] at f; simp only [offsetOf]; omega⟩
    · exact absurd f (by simp)

/-- A write is seen by a read of the same store byte, and by no other read (R83, R84). -/
theorem read8_write8 {b : Bus} (a c : Word) (v : Byte) (w : b.wf = true) :
    (b.write8 a v).read8 c =
      match b.locate a, b.locate c with
      | some l, some m =>
        if !l.readonly && l.store == m.store && l.index == m.index then v else b.read8 c
      | _, _ => b.read8 c := by
  simp only [read8, locate_write8]
  cases hc : b.locate c with
  | none => cases b.locate a <;> rfl
  | some m =>
    cases ha : b.locate a with
    | none => simp [write8, ha]
    | some l =>
      obtain ⟨st, hst, hk⟩ := located_in_store w ha
      cases hr : l.readonly with
      | true => simp [write8, ha, hr]
      | false =>
        by_cases e : m.store = l.store ∧ m.index = l.index
        · simp [write8, ha, hr, e.1, e.2,
            storesRead_storesWrite_same v ((wf_iff b).mp w).2.2 hst hk]
        · have e' : ¬(l.store = m.store ∧ l.index = m.index) := fun q => e ⟨q.1.symm, q.2.symm⟩
          simp [write8, ha, hr, storesRead_storesWrite_ne _ _ e, e']

/-- A write leaves every byte it does not lead to (no premise). -/
theorem read8_write8_ne (b : Bus) {a c : Word} (v : Byte)
    (h : ∀ l m, b.locate a = some l → b.locate c = some m → ¬(m.store = l.store ∧ m.index = l.index)) :
    (b.write8 a v).read8 c = b.read8 c := by
  simp only [read8, locate_write8]
  cases hc : b.locate c with
  | none => rfl
  | some m =>
    cases ha : b.locate a with
    | none => simp [write8, ha]
    | some l =>
      cases hr : l.readonly with
      | true => simp [write8, ha, hr]
      | false => simp [write8, ha, hr, storesRead_storesWrite_ne _ _ (h l m ha hc)]

/-! ## Remapping and the port handlers -/

@[simp] theorem length_repoint (first count : Nat) (source : PageSource) (p : Nat)
    (map : List PageSource) : (repoint first count source p map).length = map.length := by
  induction map generalizing p with
  | nil => rfl
  | cons m t ih => simp [repoint, ih]

/-- What page p of a repointed map is (R85). -/
theorem getElem?_repoint (first count : Nat) (source : PageSource) (p q : Nat)
    (map : List PageSource) :
    (repoint first count source p map)[q]? =
      (map[q]?).map (fun m =>
        if first ≤ p + q ∧ p + q < first + count then sourceAt source (p + q - first) else m) := by
  induction map generalizing p q with
  | nil => simp [repoint]
  | cons m t ih =>
    cases q with
    | zero => simp [repoint]
    | succ q => simp [repoint, ih, show p + 1 + q = p + (q + 1) by omega]

theorem sourceFits_sourceAt {b : Bus} {count i : Nat} {source : PageSource}
    (h : b.sourceFits count source = true) (hi : i < count) :
    b.sourceFits 1 (sourceAt source i) = true := by
  cases source with
  | unmapped => rfl
  | mapped n base ro =>
    simp only [sourceFits, sourceAt] at h ⊢
    split
    · rename_i st hst
      rw [hst] at h
      simp only [decide_eq_true_eq] at h ⊢
      have : (i + 1) * Config.pageSize ≤ count * Config.pageSize := Nat.mul_le_mul_right _ hi
      rw [Nat.add_mul] at this
      omega
    · rename_i hst
      simp [hst] at h

/-- What a remap that answers leaves (R85). -/
theorem remap_cases {b c : Bus} {first count : Nat} {source : PageSource}
    (h : b.remap first count source = some c) :
    first + count ≤ Config.nPages ∧ b.sourceFits count source = true ∧
      c = { b with map := repoint first count source 0 b.map } := by
  unfold remap at h
  split at h
  · rename_i g
    exact ⟨g.1, g.2, (Option.some.inj h).symm⟩
  · exact absurd h (by simp)

theorem wf_remap {b c : Bus} {first count : Nat} {source : PageSource} (w : b.wf = true)
    (h : b.remap first count source = some c) : c.wf = true := by
  obtain ⟨-, hf, rfl⟩ := remap_cases h
  rw [wf_iff] at w ⊢
  refine ⟨by simpa using w.1, fun m hm => ?_, w.2.2⟩
  obtain ⟨q, hq⟩ := List.getElem?_of_mem hm
  rw [getElem?_repoint] at hq
  cases e : b.map[q]? with
  | none => simp [e] at hq
  | some x =>
    rw [e] at hq
    simp only [Option.map_some, Option.some.injEq, Nat.zero_add] at hq
    subst hq
    change b.sourceFits 1 _ = true
    split
    · exact sourceFits_sourceAt hf (by omega)
    · exact w.2.1 x (List.mem_of_getElem? e)

/-- What a request that is accepted leaves (R501). -/
theorem chainRequest_cases {b c : Bus} {k : Nat} (h : b.chainRequest k = some c) :
    k < b.chain.length ∧
      c = { b with chain := chainSetReq b.chain k
                   intPending := b.intPending || chainIei b.chain k } := by
  unfold chainRequest at h
  split at h
  · exact ⟨‹_›, (Option.some.inj h).symm⟩
  · exact absurd h (by simp)

/-- What a handler action does: a remap, a request, or nothing. -/
theorem handle_cases (b : Bus) (act : HandlerAction) :
    (∃ first count source, b.remap first count source = some (b.handle act)) ∨
      (∃ k, b.chainRequest k = some (b.handle act)) ∨ b.handle act = b := by
  cases act with
  | remap first count source =>
    cases e : b.remap first count source with
    | none => exact .inr (.inr (by simp [handle, e]))
    | some c => exact .inl ⟨first, count, source, by simp [handle, e]⟩
  | chainRequest k =>
    cases e : b.chainRequest k with
    | none => exact .inr (.inr (by simp [handle, e]))
    | some c => exact .inr (.inl ⟨k, by simp [handle, e]⟩)

/-- No handler action changes a store byte. -/
@[simp] theorem stores_handle (b : Bus) (act : HandlerAction) : (b.handle act).stores = b.stores := by
  rcases handle_cases b act with ⟨f, c, s, h⟩ | ⟨k, h⟩ | h
  · rw [(remap_cases h).2.2]
  · rw [(chainRequest_cases h).2]
  · rw [h]

theorem wf_handle {b : Bus} (act : HandlerAction) (w : b.wf = true) : (b.handle act).wf = true := by
  rcases handle_cases b act with ⟨f, c, s, h⟩ | ⟨k, h⟩ | h
  · exact wf_remap w h
  · rw [(chainRequest_cases h).2]
    exact wf_of w rfl rfl ((wf_iff b).mp w).2.2
  · rw [h]
    exact w

theorem wf_foldl_handle {b : Bus} (acts : List HandlerAction) (w : b.wf = true) :
    (acts.foldl handle b).wf = true := by
  induction acts generalizing b with
  | nil => exact w
  | cons act t ih => exact ih (wf_handle act w)

theorem stores_foldl_handle (b : Bus) (acts : List HandlerAction) :
    (acts.foldl handle b).stores = b.stores := by
  induction acts generalizing b with
  | nil => rfl
  | cons act t ih => simp [ih]

theorem wf_chainReti {b : Bus} (w : b.wf = true) : b.chainReti.wf = true :=
  wf_of w rfl rfl ((wf_iff b).mp w).2.2

/-! ## Placing an instruction -/

theorem pageOf_lt (a : Word) : pageOf a < Config.nPages := by
  have := a.isLt
  show a.toNat / 1024 < 64
  omega

theorem wf_mapPage {b : Bus} (p : Nat) (source : PageSource) (extra : List Store) (w : b.wf = true)
    (he : extra.all Store.wf = true)
    (hf : ({ b with stores := b.stores ++ extra } : Bus).sourceFits 1 source = true) :
    ({ b with map := b.map.set p source, stores := b.stores ++ extra } : Bus).wf = true := by
  rw [wf_iff] at w ⊢
  refine ⟨by simpa using w.1, fun m hm => ?_, by simp only [List.all_append, w.2.2, he, Bool.and_self]⟩
  rcases List.mem_or_eq_of_mem_set hm with h | h
  · have f := w.2.1 m h
    cases m with
    | unmapped => rfl
    | mapped n base ro =>
      simp only [sourceFits] at f ⊢
      cases e : b.stores[n]? with
      | none => simp [e] at f
      | some st =>
        have hn := (List.getElem?_eq_some_iff.mp e).1
        rw [e] at f
        simpa [List.getElem?_append_left hn, e] using f
  · subst h
    exact hf

theorem wf_ensure {b : Bus} (a : Word) (w : b.wf = true) : (b.ensure a).wf = true := by
  have hp : pageOf a * Config.pageSize + 1 * Config.pageSize ≤ 65536 := by
    have := pageOf_lt a
    simp only [Config.pageSize, Config.nPages] at *
    omega
  have fresh : ({ b with stores := b.stores ++ [⟨65536, []⟩] } : Bus).sourceFits 1
      (.mapped b.stores.length (pageOf a * Config.pageSize) false) = true := by
    simp only [sourceFits, List.getElem?_concat_length, decide_eq_true_eq]
    exact hp
  simp only [ensure]
  split
  · split
    · exact w
    · exact wf_mapPage _ _ [⟨65536, []⟩] w rfl fresh
  · split
    · rename_i h
      have := wf_mapPage (pageOf a) (.mapped 0 (pageOf a * Config.pageSize) false) [] w rfl
        (by
          simp only [List.append_nil, sourceFits]
          cases e : b.stores[0]? with
          | none => simp [e] at h
          | some st => simpa [e] using h)
      simpa using this
    · exact wf_mapPage _ _ [⟨65536, []⟩] w rfl fresh

theorem wf_place {b : Bus} (a : Word) (v : Byte) (w : b.wf = true) : (b.place a v).wf = true := by
  have h := wf_ensure a w
  simp only [place]
  split
  · exact wf_of h rfl (sizes_storesWrite _ _ _ _) (storesWf_storesWrite _ _ _ ((wf_iff _).mp h).2.2)
  · exact h

theorem wf_placeAll {b : Bus} (a : Word) (bytes : List Byte) (w : b.wf = true) :
    (b.placeAll a bytes).wf = true := by
  induction bytes generalizing b a with
  | nil => exact w
  | cons v t ih => exact ih (a + 1) (wf_place a v w)

end Bus

/-! ## The same, of State -/

namespace State

theorem wf_write16 {s : State} (a v : Word) (w : s.bus.wf = true) : (s.write16 a v).bus.wf = true := by
  rw [write16_bus]
  exact Bus.wf_write8 _ _ (Bus.wf_write8 _ _ w)

theorem wf_push16 {s : State} (v : Word) (w : s.bus.wf = true) : (s.push16 v).bus.wf = true := by
  rw [push16_bus]
  exact Bus.wf_write8 _ _ (Bus.wf_write8 _ _ w)

theorem wf_ioAccess {s : State} (ev : IoEvent) (w : s.bus.wf = true) :
    (s.ioAccess ev).bus.wf = true := by
  rw [ioAccess_bus]
  exact Bus.wf_foldl_handle _ w

/-- Memory after reset is canonical. -/
theorem wf_reset : State.reset.bus.wf = true := by decide +kernel

end State

end Sys2Proof.Machine
end

