-- ==== Sys2Proof/Laws/Frames.lean ====
section
/-! SUPPORT. How to show the memory part of a frame: what the bus operations leave, in the words of
`Stores`. -/

namespace Sys2Proof

open Machine

/-- With stores and page map unchanged nothing was stored. -/
theorem stores_nil {s t : State} (hs : t.bus.stores = s.bus.stores) (hm : t.bus.map = s.bus.map) :
    Stores [] s t := by
  refine ⟨fun x => ?_, fun n k _ => by rw [hs]⟩
  simp only [readAfter, State.read8, Bus.read8, Bus.locate, Bus.pageSource, hs, hm]

/-- `Stores` looks at the next state's stores and page map only. -/
theorem stores_congr {writes : List (Word × Byte)} {s t u : State} (h : Stores writes s t)
    (hs : u.bus.stores = t.bus.stores) (hm : u.bus.map = t.bus.map) : Stores writes s u := by
  refine ⟨fun x => ?_, fun n k f => by rw [hs, h.2 n k f]⟩
  rw [← h.1 x]
  simp only [State.read8, Bus.read8, Bus.locate, Bus.pageSource, hs, hm]

/-- Whether an address leads to a byte depends on the page map only. -/
theorem leadsTo_write8 (b : Bus) (a c : Word) (v : Byte) (n k : Nat) :
    leadsTo (b.write8 a v) c n k = leadsTo b c n k := by
  simp [leadsTo]

/-- One byte write after others: it comes first in the list. -/
theorem stores_cons {writes : List (Word × Byte)} {s t u : State} {a : Word} {v : Byte}
    (h : Stores writes s t) (hm : t.bus.map = s.bus.map) (w : t.bus.wf = true)
    (hs : u.bus.stores = (t.bus.write8 a v).stores) (hu : u.bus.map = s.bus.map) :
    Stores ((a, v) :: writes) s u := by
  have loc : ∀ x, t.bus.locate x = s.bus.locate x := fun x => by
    simp only [Bus.locate, Bus.pageSource, hm]
  constructor
  · intro x
    have e : u.read8 x = (t.bus.write8 a v).read8 x := by
      simp only [State.read8, Bus.read8, Bus.locate, Bus.pageSource, hs, hu, Bus.map_write8, hm]
    rw [e, Bus.read8_write8 a x v w, readAfter, ← h.1 x]
    cases ha : s.bus.locate a <;> cases hx : s.bus.locate x <;>
      simp [writableAt, sameByte, leadsTo, loc, ha, hx, State.read8, Bool.and_assoc]
  · intro n k f
    have fa := f (a, v) (List.mem_cons_self ..)
    rw [hs, ← h.2 n k (fun w hw => f w (List.mem_cons_of_mem _ hw))]
    simp only [leadsTo, ← loc] at fa
    unfold Bus.write8
    split
    · rfl
    · rename_i l e
      rw [e] at fa
      split
      · rfl
      · refine storesRead_storesWrite_ne _ _ (fun q => ?_)
        simp [q.1, q.2] at fa

theorem stores_write8 {s t : State} {a : Word} {v : Byte} (w : s.bus.wf = true)
    (h : t.bus = s.bus.write8 a v) : Stores [(a, v)] s t :=
  stores_cons (stores_nil rfl rfl) rfl w (by rw [h]) (by rw [h]; simp)

theorem stores_two {s t : State} {a c : Word} {v x : Byte} (w : s.bus.wf = true)
    (h : t.bus = (s.bus.write8 a v).write8 c x) : Stores [(c, x), (a, v)] s t :=
  stores_cons (t := s.write8 a v) (stores_write8 w rfl) (by simp) (Bus.wf_write8 _ _ w)
    (by rw [h]; rfl) (by rw [h]; simp)

/-- The bus of a well-formed state is well formed. -/
theorem bus_wf {s : State} (h : StateWf s = true) : s.bus.wf = true :=
  (Bool.and_eq_true_iff.mp h).1

/-! ## Frames of the register updates -/

theorem SameExcept.refl (s : State) : SameExcept [] s s := by
  intro p _
  cases p <;> first | rfl | exact ⟨rfl, rfl⟩ | exact ⟨rfl, rfl, rfl⟩

/-- What a piece unchanged in two updates is. -/
theorem Part.same_trans {p : Part} {s t u : State} (h : p.same s t) (g : p.same t u) : p.same s u := by
  cases p <;> first
    | exact Eq.trans g h
    | exact ⟨g.1.trans h.1, g.2.trans h.2⟩
    | exact ⟨g.1.trans h.1, g.2.1.trans h.2.1, g.2.2.trans h.2.2⟩

theorem SameExcept.trans {ps qs : List Part} {s t u : State} (h : SameExcept ps s t)
    (g : SameExcept qs t u) : SameExcept (ps ++ qs) s u := fun p hp =>
  Part.same_trans (h p fun m => hp (List.mem_append_left _ m))
    (g p fun m => hp (List.mem_append_right _ m))

theorem SameExcept.mono {ps qs : List Part} {s t : State} (h : SameExcept ps s t)
    (sub : ∀ p ∈ ps, p ∈ qs) : SameExcept qs s t := fun p hp => h p fun m => hp (sub p m)

theorem frame_setA (s : State) (v : Byte) :
    SameExcept [.a] s (s.setA v) := by
  intro p hp
  cases p <;> first
    | rfl
    | exact ⟨rfl, rfl⟩
    | exact ⟨rfl, rfl, rfl⟩
    | exact absurd (by decide) hp
    | simp [Part.same, State.setA, State.f]

theorem frame_setFlags (s : State) (f : Flags) :
    SameExcept [.f] s (s.setFlags f) := by
  intro p hp
  cases p <;> first
    | rfl
    | exact ⟨rfl, rfl⟩
    | exact ⟨rfl, rfl, rfl⟩
    | exact absurd (by decide) hp
    | simp [Part.same, State.setFlags, State.a]

theorem frame_setAF (s : State) (v : Byte × Flags) :
    SameExcept [.a, .f] s (s.setAF v) := by
  intro p hp
  cases p <;> first
    | rfl
    | exact ⟨rfl, rfl⟩
    | exact ⟨rfl, rfl, rfl⟩
    | exact absurd (by decide) hp

theorem frame_setWZ (s : State) (v : Word) :
    SameExcept [.wz] s (s.setWZ v) := by
  intro p hp
  cases p <;> first
    | rfl
    | exact ⟨rfl, rfl⟩
    | exact ⟨rfl, rfl, rfl⟩
    | exact absurd (by decide) hp

theorem frame_setPC (s : State) (v : Word) :
    SameExcept [.pc] s (s.setPC v) := by
  intro p hp
  cases p <;> first
    | rfl
    | exact ⟨rfl, rfl⟩
    | exact ⟨rfl, rfl, rfl⟩
    | exact absurd (by decide) hp

theorem frame_setCycles (s : State) (n : Nat) :
    SameExcept [.cycles] s (s.setCycles n) := by
  intro p hp
  cases p <;> first
    | rfl
    | exact ⟨rfl, rfl⟩
    | exact ⟨rfl, rfl, rfl⟩
    | exact absurd (by decide) hp

theorem frame_setReg8 (s : State) (r : Reg8) (v : Byte) :
    SameExcept [partOf r] s (s.setReg8 r v) := by
  cases r <;> (
    intro p hp
    cases p <;> first
      | rfl
      | exact ⟨rfl, rfl⟩
      | exact ⟨rfl, rfl, rfl⟩
      | exact absurd (by decide) hp
      | simp [Part.same, State.setReg8, State.reg8, State.f])

theorem frame_setPairSS (s : State) (q : PairSS) (v : Word) :
    SameExcept (partsSS q) s (s.setPairSS q v) := by
  cases q <;> (
    intro p hp
    cases p <;> first
      | rfl
      | exact ⟨rfl, rfl⟩
      | exact ⟨rfl, rfl, rfl⟩
      | exact absurd (by decide) hp)

theorem frame_setPairQQ (s : State) (q : PairQQ) (v : Word) :
    SameExcept (partsQQ q) s (s.setPairQQ q v) := by
  cases q <;> (
    intro p hp
    cases p <;> first
      | rfl
      | exact ⟨rfl, rfl⟩
      | exact ⟨rfl, rfl, rfl⟩
      | exact absurd (by decide) hp)

theorem frame_setIdx (s : State) (x : Idx) (v : Word) :
    SameExcept (partsIdx x) s (s.setIdx x v) := by
  cases x <;> (
    intro p hp
    cases p <;> first
      | rfl
      | exact ⟨rfl, rfl⟩
      | exact ⟨rfl, rfl, rfl⟩
      | exact absurd (by decide) hp)

theorem frame_setHalf (s : State) (x : Idx) (k : Half) (v : Byte) :
    SameExcept [partHalf x k] s (s.setHalf x k v) := by
  cases x <;> cases k <;> (
    intro p hp
    cases p <;> first
      | rfl
      | exact ⟨rfl, rfl⟩
      | exact ⟨rfl, rfl, rfl⟩
      | exact absurd (by decide) hp
      | simp [Part.same, State.setHalf, State.half, State.idx, State.setIdx])

theorem frame_latchEA (s : State) (x : Idx) (d : Byte) :
    SameExcept [.wz] s (latchEA x d s) := by
  intro p hp
  cases p <;> first
    | rfl
    | exact ⟨rfl, rfl⟩
    | exact ⟨rfl, rfl, rfl⟩
    | exact absurd (by decide) hp

theorem frame_write8 (s : State) (a : Word) (v : Byte) :
    SameExcept [.memory] s (s.write8 a v) := by
  intro p hp
  cases p <;> first
    | rfl
    | exact ⟨rfl, rfl⟩
    | exact ⟨rfl, rfl, rfl⟩
    | exact absurd (by decide) hp
    | simp [Part.same]

/-! ## The same as steps of a proof: each takes one update off the next state -/

namespace SameExcept

/-- An update whose frame is known, after others. -/
theorem step {ps qs : List Part} {s t u : State} (g : SameExcept qs t u) (h : SameExcept ps s t)
    (m : ∀ p ∈ qs, p ∈ ps) : SameExcept ps s u :=
  mono (trans h g) fun p hp => (List.mem_append.mp hp).elim id (m p)

theorem one {p : Part} {ps : List Part} (m : p ∈ ps) : ∀ q ∈ [p], q ∈ ps := fun q hq => by
  rw [List.mem_singleton.mp hq]
  exact m

theorem self {ps : List Part} (s : State) : SameExcept ps s s := mono (refl s) (by simp)

theorem setA {ps : List Part} {s t : State} {v : Byte} (h : SameExcept ps s t)
    (m : Part.a ∈ ps) : SameExcept ps s (t.setA v) :=
  step (frame_setA _ _) h (one m)

theorem setFlags {ps : List Part} {s t : State} {f : Flags} (h : SameExcept ps s t)
    (m : Part.f ∈ ps) : SameExcept ps s (t.setFlags f) :=
  step (frame_setFlags _ _) h (one m)

theorem setWZ {ps : List Part} {s t : State} {v : Word} (h : SameExcept ps s t)
    (m : Part.wz ∈ ps) : SameExcept ps s (t.setWZ v) :=
  step (frame_setWZ _ _) h (one m)

theorem setPC {ps : List Part} {s t : State} {v : Word} (h : SameExcept ps s t)
    (m : Part.pc ∈ ps) : SameExcept ps s (t.setPC v) :=
  step (frame_setPC _ _) h (one m)

theorem setCycles {ps : List Part} {s t : State} {n : Nat} (h : SameExcept ps s t)
    (m : Part.cycles ∈ ps) : SameExcept ps s (t.setCycles n) :=
  step (frame_setCycles _ _) h (one m)

theorem setReg8 {ps : List Part} {s t : State} {r : Reg8} {v : Byte} (h : SameExcept ps s t)
    (m : partOf r ∈ ps) : SameExcept ps s (t.setReg8 r v) :=
  step (frame_setReg8 _ _ _) h (one m)

theorem setHalf {ps : List Part} {s t : State} {x : Idx} {k : Half} {v : Byte} (h : SameExcept ps s t)
    (m : partHalf x k ∈ ps) : SameExcept ps s (t.setHalf x k v) :=
  step (frame_setHalf _ _ _ _) h (one m)

theorem latchEA {ps : List Part} {s t : State} {x : Idx} {d : Byte} (h : SameExcept ps s t)
    (m : Part.wz ∈ ps) : SameExcept ps s (Machine.latchEA x d t) :=
  step (frame_latchEA _ _ _) h (one m)

theorem write8 {ps : List Part} {s t : State} {a : Word} {v : Byte} (h : SameExcept ps s t)
    (m : Part.memory ∈ ps) : SameExcept ps s (t.write8 a v) :=
  step (frame_write8 _ _ _) h (one m)

theorem setAF {ps : List Part} {s t : State} {v : Byte × Flags} (h : SameExcept ps s t)
    (m : ∀ p ∈ [.a, .f], p ∈ ps) : SameExcept ps s (t.setAF v) :=
  step (frame_setAF _ _) h m

theorem setPairSS {ps : List Part} {s t : State} {q : PairSS} {v : Word} (h : SameExcept ps s t)
    (m : ∀ p ∈ partsSS q, p ∈ ps) : SameExcept ps s (t.setPairSS q v) :=
  step (frame_setPairSS _ _ _) h m

theorem setPairQQ {ps : List Part} {s t : State} {q : PairQQ} {v : Word} (h : SameExcept ps s t)
    (m : ∀ p ∈ partsQQ q, p ∈ ps) : SameExcept ps s (t.setPairQQ q v) :=
  step (frame_setPairQQ _ _ _) h m

theorem setIdx {ps : List Part} {s t : State} {x : Idx} {v : Word} (h : SameExcept ps s t)
    (m : ∀ p ∈ partsIdx x, p ∈ ps) : SameExcept ps s (t.setIdx x v) :=
  step (frame_setIdx _ _ _) h m

end SameExcept

end Sys2Proof
end

