-- ==== Sys2Proof/Laws/Operations.lean ====
section
/-! SUPPORT. What each shared operation can do, said once: the frames of the stack, port, return,
arithmetic and interrupt operations, and the cases of a step and of an instruction boundary. -/

namespace Sys2Proof

open Machine

/-! ## Frames -/

theorem frame_push16 (s : State) (v : Word) : SameExcept [.memory, .sp] s (s.push16 v) := by
  intro p hp
  cases p <;> first
    | exact absurd (by decide) hp
    | simp [Part.same, State.a, State.f, State.reg8, State.half, State.idx]

/-- What a push stores: the high byte at SP - 1, then the low byte at SP - 2 (R95). -/
theorem stores_push16 {s t : State} {v : Word} (w : s.bus.wf = true) (h : t.bus = (s.push16 v).bus) :
    Stores [(s.sp - 2, lo v), (s.sp - 1, hi v)] s t :=
  stores_two w (by rw [h, State.push16_bus])

theorem frame_popState (s : State) : SameExcept [.sp] s s.popState := by
  intro p hp
  cases p <;> first
    | exact absurd (by decide) hp
    | rfl
    | exact ⟨rfl, rfl⟩
    | exact ⟨rfl, rfl, rfl⟩

@[simp] theorem returnFrom_pc (s : State) : (returnFrom s).pc = s.popValue := rfl

@[simp] theorem returnFrom_wz (s : State) : (returnFrom s).wz = s.popValue := rfl

@[simp] theorem returnFrom_sp (s : State) : (returnFrom s).sp = s.sp + 2 := State.popState_sp s

@[simp] theorem returnFrom_bus (s : State) : (returnFrom s).bus = s.bus := rfl

theorem frame_returnFrom (s : State) : SameExcept [.sp, .pc, .wz] s (returnFrom s) := by
  intro p hp
  cases p <;> first
    | exact absurd (by decide) hp
    | rfl
    | exact ⟨rfl, rfl⟩
    | exact ⟨rfl, rfl, rfl⟩

theorem frame_setIff1 (s : State) (b : Bool) : SameExcept [.iff1] s { s with iff1 := b } := by
  intro p hp
  cases p <;> first
    | exact absurd (by decide) hp
    | rfl
    | exact ⟨rfl, rfl⟩
    | exact ⟨rfl, rfl, rfl⟩

theorem frame_returnFromNmi (s : State) : SameExcept [.sp, .pc, .wz, .iff1] s (returnFromNmi s) :=
  SameExcept.trans (frame_returnFrom s) (frame_setIff1 _ _)

/-- A change of the chain and the pending flag only. -/
theorem frame_setBus {s : State} {b : Bus} (hs : b.stores = s.bus.stores) (hm : b.map = s.bus.map) :
    SameExcept [.chain, .intPending] s { s with bus := b } := by
  intro p hp
  cases p <;> first
    | exact absurd (by decide) hp
    | exact hs
    | exact hm
    | rfl
    | exact ⟨rfl, rfl⟩
    | exact ⟨rfl, rfl, rfl⟩

theorem frame_returnFromInterrupt (s : State) :
    SameExcept [.sp, .pc, .wz, .iff1, .chain, .intPending] s (returnFromInterrupt s) :=
  SameExcept.trans (SameExcept.trans (frame_returnFrom s) (frame_setIff1 _ (returnFrom s).iff2))
    (frame_setBus rfl rfl)

/-- A port access leaves all but the record, and what a handler may change (R86, R101). -/
theorem frame_ioAccess (s : State) (ev : IoEvent) :
    SameExcept [.io, .map, .chain, .intPending] s (s.ioAccess ev) := by
  intro p hp
  cases p <;> first
    | exact absurd (by decide) hp
    | rfl
    | exact ⟨rfl, rfl⟩
    | exact Bus.stores_foldl_handle _ _

/-- An accumulator operation writes A and F only. -/
theorem frame_aluApply (op : AluOp) (v : Byte) (s : State) : SameExcept [.a, .f] s (aluApply op v s) := by
  cases op with
  | cp => exact SameExcept.mono (frame_setFlags s _) (by simp)
  | add | adc | sub | sbc | and | xor | or => exact frame_setAF s _

@[simp] theorem aluApply_bus (op : AluOp) (v : Byte) (s : State) : (aluApply op v s).bus = s.bus := by
  cases op <;> rfl

@[simp] theorem aluApply_wz (op : AluOp) (v : Byte) (s : State) : (aluApply op v s).wz = s.wz := by
  cases op <;> rfl

/-! ## Taking an interrupt -/

@[simp] theorem takeInterrupt_iff1 (v : Byte) (s : State) : (takeInterrupt v s).iff1 = false := rfl

@[simp] theorem takeInterrupt_iff2 (v : Byte) (s : State) : (takeInterrupt v s).iff2 = false := rfl

@[simp] theorem takeInterrupt_halted (v : Byte) (s : State) : (takeInterrupt v s).halted = false := rfl

@[simp] theorem takeInterrupt_r (v : Byte) (s : State) : (takeInterrupt v s).r = incR s.r := rfl

@[simp] theorem takeInterrupt_sp (v : Byte) (s : State) : (takeInterrupt v s).sp = s.sp - 2 :=
  State.push16_sp _ _

@[simp] theorem takeInterrupt_wz (v : Byte) (s : State) : (takeInterrupt v s).wz = (takeInterrupt v s).pc :=
  rfl

@[simp] theorem takeInterrupt_cycles (v : Byte) (s : State) :
    (takeInterrupt v s).cycles = s.cycles + 19 := rfl

@[simp] theorem takeInterrupt_bus (v : Byte) (s : State) :
    (takeInterrupt v s).bus = (s.push16 s.pc).bus := rfl

/-- Where the handler stands (R511), read from the memory after the push. -/
theorem takeInterrupt_pc (v : Byte) (s : State) :
    (takeInterrupt v s).pc =
      match s.params.im2Dispatch with
      | .direct => pair s.i (v &&& 0xFE)
      | .table =>
        pair ((takeInterrupt v s).read8 (pair s.i (v &&& 0xFE) + 1))
          ((takeInterrupt v s).read8 (pair s.i (v &&& 0xFE))) := rfl

theorem frame_takeInterrupt (v : Byte) (s : State) :
    SameExcept [.memory, .iff1, .iff2, .halted, .r, .sp, .pc, .wz, .cycles] s (takeInterrupt v s) := by
  intro p hp
  cases p <;> first
    | exact absurd (by decide) hp
    | rfl
    | exact ⟨rfl, rfl⟩
    | exact ⟨rfl, rfl, rfl⟩
    | simp [Part.same]

/-! ## The instruction boundary and the step, by cases -/

/-- A boundary that gives a next state: the EI shadow is cleared, nothing is pending, the pending
request is declined or spurious, or the interrupt is taken (R510, R512). -/
theorem boundary_cases {start : Word} {s t : State} (h : boundary start s = .next t) :
    (s.eiShadow = true ∧ t = { s with eiShadow := false }) ∨
    (s.eiShadow = false ∧ s.bus.intPending = false ∧ t = s) ∨
    (s.eiShadow = false ∧ s.bus.intPending = true ∧ (s.iff1 && s.iff2) = false ∧
      t = { s with bus := { s.bus with intPending := false, chain := chainDecline s.bus.chain } }) ∨
    (s.eiShadow = false ∧ s.bus.intPending = true ∧ (s.iff1 && s.iff2) = true ∧ s.im = .im2 ∧
      chainAck s.bus.chain = none ∧ t = { s with bus := { s.bus with intPending := false } }) ∨
    (∃ (v : Byte) (after : List Node), s.eiShadow = false ∧ s.bus.intPending = true ∧
      (s.iff1 && s.iff2) = true ∧ s.im = .im2 ∧ chainAck s.bus.chain = some (v, after) ∧
      t = takeInterrupt v { s with bus := { s.bus with intPending := false, chain := after } }) := by
  unfold boundary at h
  split at h
  · cases h
  · rename_i nf
    injection h with h
    subst h
    unfold boundaryFaults at nf
    unfold boundaryEffect
    cases he : s.eiShadow <;> cases hp : s.bus.intPending <;> cases hi : (s.iff1 && s.iff2) <;>
      simp [he, hp, hi] at nf ⊢
    cases hc : chainAck s.bus.chain with
    | none => exact .inl ⟨nf, rfl, rfl⟩
    | some p => exact .inr ⟨nf, p.1, p.2, rfl, rfl⟩

/-- A powered core without a recorded fault that is not halted runs. -/
theorem step_running {s : State} (hp : s.power = .on) (hf : s.faulted = none) (hh : s.halted = false) :
    step s = stepRunning { s with inv := false } := by
  simp [step, hp, hf, hh]

/-- A step that gives a next state idles, runs an instruction, or meets an invalid opcode, and then
passes the boundary. -/
theorem step_cases {s t : State} (h : step s = .next t) :
    s.power = .on ∧ s.faulted = none ∧
    ((s.halted = true ∧ boundary s.pc (haltedIdle { s with inv := false }) = .next t) ∨
     (s.halted = false ∧ ∃ e : Reject,
        decode (fetchBytes (histWrite { s with inv := false })) = .error e ∧
        boundary s.pc (invalidOpcode (histWrite { s with inv := false })) = .next t) ∨
     (s.halted = false ∧ ∃ (i : Instr) (rest : List Byte) (u : State),
        decode (fetchBytes (histWrite { s with inv := false })) = .ok (i, rest) ∧
        exec i (afterFetch (4 - rest.length) (histWrite { s with inv := false })) = .next u ∧
        boundary s.pc u = .next t)) := by
  unfold step at h
  split at h
  · cases h
  · cases h
  · rename_i hp hf
    refine ⟨hp, hf, ?_⟩
    split at h
    · exact .inl ⟨‹_›, h⟩
    · rename_i hh
      have hh : s.halted = false := by simpa using hh
      refine .inr ?_
      unfold stepRunning fetch at h
      cases hd : decode (fetchBytes (histWrite { s with inv := false })) with
      | error e =>
        rw [hd] at h
        exact .inl ⟨hh, e, rfl, h⟩
      | ok p =>
        obtain ⟨i, rest⟩ := p
        rw [hd] at h
        refine .inr ⟨hh, i, rest, ?_⟩
        simp only at h
        split at h
        · rename_i u hu
          exact ⟨u, rfl, hu, h⟩
        · cases h
        · cases h

/-- The chain of a launch, node by node. -/
theorem launchChain_iff {terms : LaunchTerms} {chain : List Node} :
    launchChain terms chain = true ↔
      (∀ (k : Nat) (n : Node), chain[k]? = some n → (n.req, n.ius) = terms.nodeLatches k) ∧
      ∀ l ∈ terms.latches, l.1 < chain.length := by
  simp only [launchChain, Bool.and_eq_true, List.all_eq_true, decide_eq_true_eq, beq_iff_eq]
  refine and_congr_left fun _ => ⟨fun h k n hk => ?_, fun h p hp => ?_⟩
  · exact h (n, k) (List.mk_mem_zipIdx_iff_getElem?.2 hk)
  · exact h p.2 p.1 (List.mem_zipIdx_iff_getElem?.1 hp)

/-- All that a clean launch says (R651). -/
theorem cleanLaunch_iff {terms : LaunchTerms} {s : State} :
    CleanLaunch terms s = true ↔
      s.power = .on ∧ s.faulted = none ∧ s.halted = false ∧ s.inv = false ∧ s.eiShadow = false ∧
      s.bus.intPending = false ∧ launchChain terms s.bus.chain = true ∧
      s.iff1 = terms.iff1 ∧ s.iff2 = terms.iff2 ∧ s.im = terms.im ∧
      ∀ p : Nat, p ∈ terms.pages ∨ (∃ source : PageSource, (p, source) ∈ terms.map) →
        launchPage terms s.bus p = true := by
  simp [CleanLaunch, and_assoc, or_imp, forall_and]

/-- A clean launch runs an instruction in its first step. -/
theorem cleanLaunch_step {terms : LaunchTerms} {s : State} (h : CleanLaunch terms s = true) :
    step s = stepRunning s := by
  obtain ⟨hp, hf, hh, hi, -⟩ := cleanLaunch_iff.1 h
  rw [step_running hp hf hh, show ({ s with inv := false } : State) = s by rw [← hi]]

end Sys2Proof
end

