-- ==== Sys2Proof/Tests/Slice0.lean ====
section
/-! SUPPORT. Small tests of the model against the words, tables and vectors of the spec, each on one step
or one operation, and for every statement with hypotheses a concrete state that meets them. Where a
theorem's comment names a vector (V40.1, E4, ...) the expected values are those of
95_test_vectors.md. -/

namespace Sys2Proof.Tests

open Machine Spec

noncomputable section

set_option Elab.async false

/-! ## The launch state of 95_test_vectors.md §0 -/

/-- Every page as writable RAM on one store of 65,536 bytes. -/
def ram : Bus where
  stores := [⟨65536, []⟩]
  map := (List.range 64).map (fun p => .mapped 0 (1024 * p) false)
  chain := []
  intPending := false

/-- The launch state: pc = 0x0100, SP = 0xFFF0, everything else zero. -/
def launch : State := { State.reset with pc := 0x0100, sp := 0xFFF0, bus := ram }

/-- A state with bytes written to memory. -/
def poke (bytes : List (Word × Byte)) (s : State) : State :=
  bytes.foldl (fun t p => t.write8 p.1 p.2) s

/-- Bytes with the addresses they take from a on. -/
def from' (a : Word) (code : List Byte) : List (Word × Byte) :=
  match code with
  | [] => []
  | v :: t => (a, v) :: from' (a + 1) t

/-- A state with code at pc. -/
def load (code : List Byte) (s : State) : State := poke (from' s.pc code) s

/-- What is seen of the state one step after code was placed at pc and bytes in memory. -/
def after {α : Type} (code : List Byte) (bytes : List (Word × Byte)) (s : State) (see : State → α) :
    Option α :=
  match step (load code (poke bytes s)) with
  | .next t => some (see t)
  | .fault _ => none
  | .refused _ => none

/-- The pc a step faults with, where it faults. -/
def faultOf (s : State) : Option Word :=
  match step s with
  | .fault (.unsupportedInterruptMode pc) => some pc
  | .next _ => none
  | .refused _ => none

/-- Why a host call is refused, where it is. -/
def refusalOf {α : Type} (r : HostReply α) : Option Refusal :=
  match r with
  | .ok _ => none
  | .error e => some e

/-- What a host call answers, where it answers. -/
def answerOf {α : Type} (r : HostReply α) : Option α :=
  match r with
  | .ok v => some v
  | .error _ => none

theorem test_launch_is_clean : CleanLaunch .default launch = true := by decide +kernel

/-- R651: only the pages an example uses need be mapped. -/
theorem test_launch_uses_pages :
    let s := { launch with bus := { ram with map := ram.map.set 5 .unmapped } }
    CleanLaunch { pages := [0, 8, 63] } s = true ∧ CleanLaunch { pages := [0, 5] } s = false := by
  decide +kernel

/-- R651: a pending request, or a latch the example does not say, is no clean launch. -/
theorem test_launch_unsaid :
    let latched := { launch with bus := { ram with chain := [⟨false, true, 0x10⟩] } }
    CleanLaunch .default latched = false ∧
      CleanLaunch { LaunchTerms.default with latches := [(0, false, true)] } latched = true ∧
      CleanLaunch .default { launch with bus := { ram with intPending := true } } = false := by
  decide +kernel

theorem test_launch_is_well_formed : StateWf launch = true := by decide +kernel

/-! ## Ill-formed bytes are refused, by a reason of their own (R132, R133) -/

theorem test_refuse_no_bytes : decode [] = .error .truncated ∧ wellFormedBytes [] = false := ⟨rfl, rfl⟩

theorem test_refuse_ed_hole :
    decode [0xED, 0x00] = .error (.invalidEd 0x00) ∧ wellFormedBytes [0xED, 0x00] = false := ⟨rfl, rfl⟩

theorem test_refuse_ed_hole_between :
    decode [0xED, 0x4C] = .error (.invalidEd 0x4C) ∧ wellFormedBytes [0xED, 0x4C] = false := ⟨rfl, rfl⟩

theorem test_refuse_index_hole :
    decode [0xDD, 0x87] = .error (.invalidIndex .ix 0x87) ∧ wellFormedBytes [0xDD, 0x87] = false :=
  ⟨rfl, rfl⟩

theorem test_refuse_prefix_after_prefix :
    decode [0xFD, 0xED, 0xB0] = .error (.invalidIndex .iy 0xED) ∧
      wellFormedBytes [0xFD, 0xED, 0xB0] = false := ⟨rfl, rfl⟩

theorem test_refuse_lone_prefix :
    decode [0xCB] = .error .truncated ∧ wellFormedBytes [0xCB] = false ∧
      decode [0xDD] = .error .truncated ∧ wellFormedBytes [0xDD] = false := ⟨rfl, rfl, rfl, rfl⟩

theorem test_refuse_short_word :
    decode [0x21, 0x34] = .error .truncated ∧ wellFormedBytes [0x21, 0x34] = false := ⟨rfl, rfl⟩

theorem test_refuse_short_displacement :
    decode [0xDD, 0x86] = .error .truncated ∧ wellFormedBytes [0xDD, 0x86] = false := ⟨rfl, rfl⟩

theorem test_refuse_short_index_cb :
    decode [0xFD, 0xCB, 0x05] = .error .truncated ∧ wellFormedBytes [0xFD, 0xCB, 0x05] = false :=
  ⟨rfl, rfl⟩

/-! ## Decoding: a word of every row of the opcode table, written out from the table's encoding column
with d = 0x85, e = 0xFE, n = 0x34 and nn = 0x1234 -/

theorem test_decode_rows_0 :
    ([
      [0x00], [0x01, 0x34, 0x12], [0x02], [0x03], [0x04], [0x05], [0x06, 0x34], [0x07], [0x08],
      [0x09], [0x0A], [0x0B], [0x0C], [0x0D], [0x0E, 0x34], [0x0F], [0x10, 0xFE],
      [0x11, 0x34, 0x12], [0x12], [0x13], [0x14], [0x15], [0x16, 0x34], [0x17], [0x18, 0xFE],
      [0x19], [0x1A], [0x1B], [0x1C], [0x1D], [0x1E, 0x34], [0x1F], [0x20, 0xFE],
      [0x21, 0x34, 0x12], [0x22, 0x34, 0x12], [0x23], [0x24], [0x25], [0x26, 0x34], [0x27],
      [0x28, 0xFE], [0x29], [0x2A, 0x34, 0x12], [0x2B], [0x2C], [0x2D], [0x2E, 0x34], [0x2F],
      [0x30, 0xFE], [0x31, 0x34, 0x12], [0x32, 0x34, 0x12], [0x33], [0x34], [0x35], [0x36, 0x34],
      [0x37], [0x38, 0xFE], [0x39], [0x3A, 0x34, 0x12], [0x3B], [0x3C], [0x3D], [0x3E, 0x34],
      [0x3F], [0x40], [0x41], [0x42], [0x43], [0x44], [0x45], [0x46], [0x47], [0x48], [0x49],
      [0x4A], [0x4B], [0x4C], [0x4D], [0x4E], [0x4F], [0x50], [0x51], [0x52], [0x53], [0x54],
      [0x55], [0x56], [0x57], [0x58], [0x59], [0x5A], [0x5B], [0x5C], [0x5D], [0x5E], [0x5F],
      [0x60], [0x61], [0x62], [0x63], [0x64], [0x65], [0x66], [0x67]] : List (List Byte)).map decode =
      [
        .ok (.nop, []), .ok (.ld_BC_nn 0x1234, []), .ok (.ld_mBC_A, []), .ok (.inc_BC, []),
        .ok (.inc_B, []), .ok (.dec_B, []), .ok (.ld_B_n 0x34, []), .ok (.rlca, []),
        .ok (.ex_AF_AF, []), .ok (.add_HL_BC, []), .ok (.ld_A_mBC, []), .ok (.dec_BC, []),
        .ok (.inc_C, []), .ok (.dec_C, []), .ok (.ld_C_n 0x34, []), .ok (.rrca, []),
        .ok (.djnz_e 0xFE, []), .ok (.ld_DE_nn 0x1234, []), .ok (.ld_mDE_A, []),
        .ok (.inc_DE, []), .ok (.inc_D, []), .ok (.dec_D, []), .ok (.ld_D_n 0x34, []),
        .ok (.rla, []), .ok (.jr_e 0xFE, []), .ok (.add_HL_DE, []), .ok (.ld_A_mDE, []),
        .ok (.dec_DE, []), .ok (.inc_E, []), .ok (.dec_E, []), .ok (.ld_E_n 0x34, []),
        .ok (.rra, []), .ok (.jr_NZ_e 0xFE, []), .ok (.ld_HL_nn 0x1234, []),
        .ok (.ld_mnn_HL 0x1234, []), .ok (.inc_HL, []), .ok (.inc_H, []), .ok (.dec_H, []),
        .ok (.ld_H_n 0x34, []), .ok (.daa, []), .ok (.jr_Z_e 0xFE, []), .ok (.add_HL_HL, []),
        .ok (.ld_HL_mnn 0x1234, []), .ok (.dec_HL, []), .ok (.inc_L, []), .ok (.dec_L, []),
        .ok (.ld_L_n 0x34, []), .ok (.cpl, []), .ok (.jr_NC_e 0xFE, []),
        .ok (.ld_SP_nn 0x1234, []), .ok (.ld_mnn_A 0x1234, []), .ok (.inc_SP, []),
        .ok (.inc_mHL, []), .ok (.dec_mHL, []), .ok (.ld_mHL_n 0x34, []), .ok (.scf, []),
        .ok (.jr_C_e 0xFE, []), .ok (.add_HL_SP, []), .ok (.ld_A_mnn 0x1234, []),
        .ok (.dec_SP, []), .ok (.inc_A, []), .ok (.dec_A, []), .ok (.ld_A_n 0x34, []),
        .ok (.ccf, []), .ok (.ld_B_B, []), .ok (.ld_B_C, []), .ok (.ld_B_D, []),
        .ok (.ld_B_E, []), .ok (.ld_B_H, []), .ok (.ld_B_L, []), .ok (.ld_B_mHL, []),
        .ok (.ld_B_A, []), .ok (.ld_C_B, []), .ok (.ld_C_C, []), .ok (.ld_C_D, []),
        .ok (.ld_C_E, []), .ok (.ld_C_H, []), .ok (.ld_C_L, []), .ok (.ld_C_mHL, []),
        .ok (.ld_C_A, []), .ok (.ld_D_B, []), .ok (.ld_D_C, []), .ok (.ld_D_D, []),
        .ok (.ld_D_E, []), .ok (.ld_D_H, []), .ok (.ld_D_L, []), .ok (.ld_D_mHL, []),
        .ok (.ld_D_A, []), .ok (.ld_E_B, []), .ok (.ld_E_C, []), .ok (.ld_E_D, []),
        .ok (.ld_E_E, []), .ok (.ld_E_H, []), .ok (.ld_E_L, []), .ok (.ld_E_mHL, []),
        .ok (.ld_E_A, []), .ok (.ld_H_B, []), .ok (.ld_H_C, []), .ok (.ld_H_D, []),
        .ok (.ld_H_E, []), .ok (.ld_H_H, []), .ok (.ld_H_L, []), .ok (.ld_H_mHL, []),
        .ok (.ld_H_A, [])] :=
  rfl

theorem test_decode_rows_104 :
    ([
      [0x68], [0x69], [0x6A], [0x6B], [0x6C], [0x6D], [0x6E], [0x6F], [0x70], [0x71], [0x72],
      [0x73], [0x74], [0x75], [0x76], [0x77], [0x78], [0x79], [0x7A], [0x7B], [0x7C], [0x7D],
      [0x7E], [0x7F], [0x80], [0x81], [0x82], [0x83], [0x84], [0x85], [0x86], [0x87], [0x88],
      [0x89], [0x8A], [0x8B], [0x8C], [0x8D], [0x8E], [0x8F], [0x90], [0x91], [0x92], [0x93],
      [0x94], [0x95], [0x96], [0x97], [0x98], [0x99], [0x9A], [0x9B], [0x9C], [0x9D], [0x9E],
      [0x9F], [0xA0], [0xA1], [0xA2], [0xA3], [0xA4], [0xA5], [0xA6], [0xA7], [0xA8], [0xA9],
      [0xAA], [0xAB], [0xAC], [0xAD], [0xAE], [0xAF], [0xB0], [0xB1], [0xB2], [0xB3], [0xB4],
      [0xB5], [0xB6], [0xB7], [0xB8], [0xB9], [0xBA], [0xBB], [0xBC], [0xBD], [0xBE], [0xBF],
      [0xC0], [0xC1], [0xC2, 0x34, 0x12], [0xC3, 0x34, 0x12], [0xC4, 0x34, 0x12], [0xC5],
      [0xC6, 0x34], [0xC7], [0xC8], [0xC9], [0xCA, 0x34, 0x12], [0xCC, 0x34, 0x12],
      [0xCD, 0x34, 0x12], [0xCE, 0x34], [0xCF], [0xD0]] : List (List Byte)).map decode =
      [
        .ok (.ld_L_B, []), .ok (.ld_L_C, []), .ok (.ld_L_D, []), .ok (.ld_L_E, []),
        .ok (.ld_L_H, []), .ok (.ld_L_L, []), .ok (.ld_L_mHL, []), .ok (.ld_L_A, []),
        .ok (.ld_mHL_B, []), .ok (.ld_mHL_C, []), .ok (.ld_mHL_D, []), .ok (.ld_mHL_E, []),
        .ok (.ld_mHL_H, []), .ok (.ld_mHL_L, []), .ok (.halt, []), .ok (.ld_mHL_A, []),
        .ok (.ld_A_B, []), .ok (.ld_A_C, []), .ok (.ld_A_D, []), .ok (.ld_A_E, []),
        .ok (.ld_A_H, []), .ok (.ld_A_L, []), .ok (.ld_A_mHL, []), .ok (.ld_A_A, []),
        .ok (.add_A_B, []), .ok (.add_A_C, []), .ok (.add_A_D, []), .ok (.add_A_E, []),
        .ok (.add_A_H, []), .ok (.add_A_L, []), .ok (.add_A_mHL, []), .ok (.add_A_A, []),
        .ok (.adc_A_B, []), .ok (.adc_A_C, []), .ok (.adc_A_D, []), .ok (.adc_A_E, []),
        .ok (.adc_A_H, []), .ok (.adc_A_L, []), .ok (.adc_A_mHL, []), .ok (.adc_A_A, []),
        .ok (.sub_B, []), .ok (.sub_C, []), .ok (.sub_D, []), .ok (.sub_E, []), .ok (.sub_H, []),
        .ok (.sub_L, []), .ok (.sub_mHL, []), .ok (.sub_A, []), .ok (.sbc_A_B, []),
        .ok (.sbc_A_C, []), .ok (.sbc_A_D, []), .ok (.sbc_A_E, []), .ok (.sbc_A_H, []),
        .ok (.sbc_A_L, []), .ok (.sbc_A_mHL, []), .ok (.sbc_A_A, []), .ok (.and_B, []),
        .ok (.and_C, []), .ok (.and_D, []), .ok (.and_E, []), .ok (.and_H, []), .ok (.and_L, []),
        .ok (.and_mHL, []), .ok (.and_A, []), .ok (.xor_B, []), .ok (.xor_C, []),
        .ok (.xor_D, []), .ok (.xor_E, []), .ok (.xor_H, []), .ok (.xor_L, []),
        .ok (.xor_mHL, []), .ok (.xor_A, []), .ok (.or_B, []), .ok (.or_C, []), .ok (.or_D, []),
        .ok (.or_E, []), .ok (.or_H, []), .ok (.or_L, []), .ok (.or_mHL, []), .ok (.or_A, []),
        .ok (.cp_B, []), .ok (.cp_C, []), .ok (.cp_D, []), .ok (.cp_E, []), .ok (.cp_H, []),
        .ok (.cp_L, []), .ok (.cp_mHL, []), .ok (.cp_A, []), .ok (.ret_NZ, []),
        .ok (.pop_BC, []), .ok (.jp_NZ_nn 0x1234, []), .ok (.jp_nn 0x1234, []),
        .ok (.call_NZ_nn 0x1234, []), .ok (.push_BC, []), .ok (.add_A_n 0x34, []),
        .ok (.rst_00H, []), .ok (.ret_Z, []), .ok (.ret, []), .ok (.jp_Z_nn 0x1234, []),
        .ok (.call_Z_nn 0x1234, []), .ok (.call_nn 0x1234, []), .ok (.adc_A_n 0x34, []),
        .ok (.rst_08H, []), .ok (.ret_NC, [])] :=
  rfl

theorem test_decode_rows_208 :
    ([
      [0xD1], [0xD2, 0x34, 0x12], [0xD3, 0x34], [0xD4, 0x34, 0x12], [0xD5], [0xD6, 0x34], [0xD7],
      [0xD8], [0xD9], [0xDA, 0x34, 0x12], [0xDB, 0x34], [0xDC, 0x34, 0x12], [0xDE, 0x34], [0xDF],
      [0xE0], [0xE1], [0xE2, 0x34, 0x12], [0xE3], [0xE4, 0x34, 0x12], [0xE5], [0xE6, 0x34],
      [0xE7], [0xE8], [0xE9], [0xEA, 0x34, 0x12], [0xEB], [0xEC, 0x34, 0x12], [0xEE, 0x34],
      [0xEF], [0xF0], [0xF1], [0xF2, 0x34, 0x12], [0xF3], [0xF4, 0x34, 0x12], [0xF5],
      [0xF6, 0x34], [0xF7], [0xF8], [0xF9], [0xFA, 0x34, 0x12], [0xFB], [0xFC, 0x34, 0x12],
      [0xFE, 0x34], [0xFF], [0xCB, 0x00], [0xCB, 0x01], [0xCB, 0x02], [0xCB, 0x03], [0xCB, 0x04],
      [0xCB, 0x05], [0xCB, 0x06], [0xCB, 0x07], [0xCB, 0x08], [0xCB, 0x09], [0xCB, 0x0A],
      [0xCB, 0x0B], [0xCB, 0x0C], [0xCB, 0x0D], [0xCB, 0x0E], [0xCB, 0x0F], [0xCB, 0x10],
      [0xCB, 0x11], [0xCB, 0x12], [0xCB, 0x13], [0xCB, 0x14], [0xCB, 0x15], [0xCB, 0x16],
      [0xCB, 0x17], [0xCB, 0x18], [0xCB, 0x19], [0xCB, 0x1A], [0xCB, 0x1B], [0xCB, 0x1C],
      [0xCB, 0x1D], [0xCB, 0x1E], [0xCB, 0x1F], [0xCB, 0x20], [0xCB, 0x21], [0xCB, 0x22],
      [0xCB, 0x23], [0xCB, 0x24], [0xCB, 0x25], [0xCB, 0x26], [0xCB, 0x27], [0xCB, 0x28],
      [0xCB, 0x29], [0xCB, 0x2A], [0xCB, 0x2B], [0xCB, 0x2C], [0xCB, 0x2D], [0xCB, 0x2E],
      [0xCB, 0x2F], [0xCB, 0x30], [0xCB, 0x31], [0xCB, 0x32], [0xCB, 0x33], [0xCB, 0x34],
      [0xCB, 0x35], [0xCB, 0x36], [0xCB, 0x37], [0xCB, 0x38], [0xCB, 0x39], [0xCB, 0x3A],
      [0xCB, 0x3B]] : List (List Byte)).map decode =
      [
        .ok (.pop_DE, []), .ok (.jp_NC_nn 0x1234, []), .ok (.out_pn_A 0x34, []),
        .ok (.call_NC_nn 0x1234, []), .ok (.push_DE, []), .ok (.sub_n 0x34, []),
        .ok (.rst_10H, []), .ok (.ret_C, []), .ok (.exx, []), .ok (.jp_C_nn 0x1234, []),
        .ok (.in_A_pn 0x34, []), .ok (.call_C_nn 0x1234, []), .ok (.sbc_A_n 0x34, []),
        .ok (.rst_18H, []), .ok (.ret_PO, []), .ok (.pop_HL, []), .ok (.jp_PO_nn 0x1234, []),
        .ok (.ex_mSP_HL, []), .ok (.call_PO_nn 0x1234, []), .ok (.push_HL, []),
        .ok (.and_n 0x34, []), .ok (.rst_20H, []), .ok (.ret_PE, []), .ok (.jp_mHL, []),
        .ok (.jp_PE_nn 0x1234, []), .ok (.ex_DE_HL, []), .ok (.call_PE_nn 0x1234, []),
        .ok (.xor_n 0x34, []), .ok (.rst_28H, []), .ok (.ret_P, []), .ok (.pop_AF, []),
        .ok (.jp_P_nn 0x1234, []), .ok (.di, []), .ok (.call_P_nn 0x1234, []),
        .ok (.push_AF, []), .ok (.or_n 0x34, []), .ok (.rst_30H, []), .ok (.ret_M, []),
        .ok (.ld_SP_HL, []), .ok (.jp_M_nn 0x1234, []), .ok (.ei, []),
        .ok (.call_M_nn 0x1234, []), .ok (.cp_n 0x34, []), .ok (.rst_38H, []), .ok (.rlc_B, []),
        .ok (.rlc_C, []), .ok (.rlc_D, []), .ok (.rlc_E, []), .ok (.rlc_H, []), .ok (.rlc_L, []),
        .ok (.rlc_mHL, []), .ok (.rlc_A, []), .ok (.rrc_B, []), .ok (.rrc_C, []),
        .ok (.rrc_D, []), .ok (.rrc_E, []), .ok (.rrc_H, []), .ok (.rrc_L, []),
        .ok (.rrc_mHL, []), .ok (.rrc_A, []), .ok (.rl_B, []), .ok (.rl_C, []), .ok (.rl_D, []),
        .ok (.rl_E, []), .ok (.rl_H, []), .ok (.rl_L, []), .ok (.rl_mHL, []), .ok (.rl_A, []),
        .ok (.rr_B, []), .ok (.rr_C, []), .ok (.rr_D, []), .ok (.rr_E, []), .ok (.rr_H, []),
        .ok (.rr_L, []), .ok (.rr_mHL, []), .ok (.rr_A, []), .ok (.sla_B, []), .ok (.sla_C, []),
        .ok (.sla_D, []), .ok (.sla_E, []), .ok (.sla_H, []), .ok (.sla_L, []),
        .ok (.sla_mHL, []), .ok (.sla_A, []), .ok (.sra_B, []), .ok (.sra_C, []),
        .ok (.sra_D, []), .ok (.sra_E, []), .ok (.sra_H, []), .ok (.sra_L, []),
        .ok (.sra_mHL, []), .ok (.sra_A, []), .ok (.sll_B, []), .ok (.sll_C, []),
        .ok (.sll_D, []), .ok (.sll_E, []), .ok (.sll_H, []), .ok (.sll_L, []),
        .ok (.sll_mHL, []), .ok (.sll_A, []), .ok (.srl_B, []), .ok (.srl_C, []),
        .ok (.srl_D, []), .ok (.srl_E, [])] :=
  rfl

theorem test_decode_rows_312 :
    ([
      [0xCB, 0x3C], [0xCB, 0x3D], [0xCB, 0x3E], [0xCB, 0x3F], [0xCB, 0x40], [0xCB, 0x41],
      [0xCB, 0x42], [0xCB, 0x43], [0xCB, 0x44], [0xCB, 0x45], [0xCB, 0x46], [0xCB, 0x47],
      [0xCB, 0x48], [0xCB, 0x49], [0xCB, 0x4A], [0xCB, 0x4B], [0xCB, 0x4C], [0xCB, 0x4D],
      [0xCB, 0x4E], [0xCB, 0x4F], [0xCB, 0x50], [0xCB, 0x51], [0xCB, 0x52], [0xCB, 0x53],
      [0xCB, 0x54], [0xCB, 0x55], [0xCB, 0x56], [0xCB, 0x57], [0xCB, 0x58], [0xCB, 0x59],
      [0xCB, 0x5A], [0xCB, 0x5B], [0xCB, 0x5C], [0xCB, 0x5D], [0xCB, 0x5E], [0xCB, 0x5F],
      [0xCB, 0x60], [0xCB, 0x61], [0xCB, 0x62], [0xCB, 0x63], [0xCB, 0x64], [0xCB, 0x65],
      [0xCB, 0x66], [0xCB, 0x67], [0xCB, 0x68], [0xCB, 0x69], [0xCB, 0x6A], [0xCB, 0x6B],
      [0xCB, 0x6C], [0xCB, 0x6D], [0xCB, 0x6E], [0xCB, 0x6F], [0xCB, 0x70], [0xCB, 0x71],
      [0xCB, 0x72], [0xCB, 0x73], [0xCB, 0x74], [0xCB, 0x75], [0xCB, 0x76], [0xCB, 0x77],
      [0xCB, 0x78], [0xCB, 0x79], [0xCB, 0x7A], [0xCB, 0x7B], [0xCB, 0x7C], [0xCB, 0x7D],
      [0xCB, 0x7E], [0xCB, 0x7F], [0xCB, 0x80], [0xCB, 0x81], [0xCB, 0x82], [0xCB, 0x83],
      [0xCB, 0x84], [0xCB, 0x85], [0xCB, 0x86], [0xCB, 0x87], [0xCB, 0x88], [0xCB, 0x89],
      [0xCB, 0x8A], [0xCB, 0x8B], [0xCB, 0x8C], [0xCB, 0x8D], [0xCB, 0x8E], [0xCB, 0x8F],
      [0xCB, 0x90], [0xCB, 0x91], [0xCB, 0x92], [0xCB, 0x93], [0xCB, 0x94], [0xCB, 0x95],
      [0xCB, 0x96], [0xCB, 0x97], [0xCB, 0x98], [0xCB, 0x99], [0xCB, 0x9A], [0xCB, 0x9B],
      [0xCB, 0x9C], [0xCB, 0x9D], [0xCB, 0x9E], [0xCB, 0x9F], [0xCB, 0xA0], [0xCB, 0xA1],
      [0xCB, 0xA2], [0xCB, 0xA3]] : List (List Byte)).map decode =
      [
        .ok (.srl_H, []), .ok (.srl_L, []), .ok (.srl_mHL, []), .ok (.srl_A, []),
        .ok (.bit_0_B, []), .ok (.bit_0_C, []), .ok (.bit_0_D, []), .ok (.bit_0_E, []),
        .ok (.bit_0_H, []), .ok (.bit_0_L, []), .ok (.bit_0_mHL, []), .ok (.bit_0_A, []),
        .ok (.bit_1_B, []), .ok (.bit_1_C, []), .ok (.bit_1_D, []), .ok (.bit_1_E, []),
        .ok (.bit_1_H, []), .ok (.bit_1_L, []), .ok (.bit_1_mHL, []), .ok (.bit_1_A, []),
        .ok (.bit_2_B, []), .ok (.bit_2_C, []), .ok (.bit_2_D, []), .ok (.bit_2_E, []),
        .ok (.bit_2_H, []), .ok (.bit_2_L, []), .ok (.bit_2_mHL, []), .ok (.bit_2_A, []),
        .ok (.bit_3_B, []), .ok (.bit_3_C, []), .ok (.bit_3_D, []), .ok (.bit_3_E, []),
        .ok (.bit_3_H, []), .ok (.bit_3_L, []), .ok (.bit_3_mHL, []), .ok (.bit_3_A, []),
        .ok (.bit_4_B, []), .ok (.bit_4_C, []), .ok (.bit_4_D, []), .ok (.bit_4_E, []),
        .ok (.bit_4_H, []), .ok (.bit_4_L, []), .ok (.bit_4_mHL, []), .ok (.bit_4_A, []),
        .ok (.bit_5_B, []), .ok (.bit_5_C, []), .ok (.bit_5_D, []), .ok (.bit_5_E, []),
        .ok (.bit_5_H, []), .ok (.bit_5_L, []), .ok (.bit_5_mHL, []), .ok (.bit_5_A, []),
        .ok (.bit_6_B, []), .ok (.bit_6_C, []), .ok (.bit_6_D, []), .ok (.bit_6_E, []),
        .ok (.bit_6_H, []), .ok (.bit_6_L, []), .ok (.bit_6_mHL, []), .ok (.bit_6_A, []),
        .ok (.bit_7_B, []), .ok (.bit_7_C, []), .ok (.bit_7_D, []), .ok (.bit_7_E, []),
        .ok (.bit_7_H, []), .ok (.bit_7_L, []), .ok (.bit_7_mHL, []), .ok (.bit_7_A, []),
        .ok (.res_0_B, []), .ok (.res_0_C, []), .ok (.res_0_D, []), .ok (.res_0_E, []),
        .ok (.res_0_H, []), .ok (.res_0_L, []), .ok (.res_0_mHL, []), .ok (.res_0_A, []),
        .ok (.res_1_B, []), .ok (.res_1_C, []), .ok (.res_1_D, []), .ok (.res_1_E, []),
        .ok (.res_1_H, []), .ok (.res_1_L, []), .ok (.res_1_mHL, []), .ok (.res_1_A, []),
        .ok (.res_2_B, []), .ok (.res_2_C, []), .ok (.res_2_D, []), .ok (.res_2_E, []),
        .ok (.res_2_H, []), .ok (.res_2_L, []), .ok (.res_2_mHL, []), .ok (.res_2_A, []),
        .ok (.res_3_B, []), .ok (.res_3_C, []), .ok (.res_3_D, []), .ok (.res_3_E, []),
        .ok (.res_3_H, []), .ok (.res_3_L, []), .ok (.res_3_mHL, []), .ok (.res_3_A, []),
        .ok (.res_4_B, []), .ok (.res_4_C, []), .ok (.res_4_D, []), .ok (.res_4_E, [])] :=
  rfl

theorem test_decode_rows_416 :
    ([
      [0xCB, 0xA4], [0xCB, 0xA5], [0xCB, 0xA6], [0xCB, 0xA7], [0xCB, 0xA8], [0xCB, 0xA9],
      [0xCB, 0xAA], [0xCB, 0xAB], [0xCB, 0xAC], [0xCB, 0xAD], [0xCB, 0xAE], [0xCB, 0xAF],
      [0xCB, 0xB0], [0xCB, 0xB1], [0xCB, 0xB2], [0xCB, 0xB3], [0xCB, 0xB4], [0xCB, 0xB5],
      [0xCB, 0xB6], [0xCB, 0xB7], [0xCB, 0xB8], [0xCB, 0xB9], [0xCB, 0xBA], [0xCB, 0xBB],
      [0xCB, 0xBC], [0xCB, 0xBD], [0xCB, 0xBE], [0xCB, 0xBF], [0xCB, 0xC0], [0xCB, 0xC1],
      [0xCB, 0xC2], [0xCB, 0xC3], [0xCB, 0xC4], [0xCB, 0xC5], [0xCB, 0xC6], [0xCB, 0xC7],
      [0xCB, 0xC8], [0xCB, 0xC9], [0xCB, 0xCA], [0xCB, 0xCB], [0xCB, 0xCC], [0xCB, 0xCD],
      [0xCB, 0xCE], [0xCB, 0xCF], [0xCB, 0xD0], [0xCB, 0xD1], [0xCB, 0xD2], [0xCB, 0xD3],
      [0xCB, 0xD4], [0xCB, 0xD5], [0xCB, 0xD6], [0xCB, 0xD7], [0xCB, 0xD8], [0xCB, 0xD9],
      [0xCB, 0xDA], [0xCB, 0xDB], [0xCB, 0xDC], [0xCB, 0xDD], [0xCB, 0xDE], [0xCB, 0xDF],
      [0xCB, 0xE0], [0xCB, 0xE1], [0xCB, 0xE2], [0xCB, 0xE3], [0xCB, 0xE4], [0xCB, 0xE5],
      [0xCB, 0xE6], [0xCB, 0xE7], [0xCB, 0xE8], [0xCB, 0xE9], [0xCB, 0xEA], [0xCB, 0xEB],
      [0xCB, 0xEC], [0xCB, 0xED], [0xCB, 0xEE], [0xCB, 0xEF], [0xCB, 0xF0], [0xCB, 0xF1],
      [0xCB, 0xF2], [0xCB, 0xF3], [0xCB, 0xF4], [0xCB, 0xF5], [0xCB, 0xF6], [0xCB, 0xF7],
      [0xCB, 0xF8], [0xCB, 0xF9], [0xCB, 0xFA], [0xCB, 0xFB], [0xCB, 0xFC], [0xCB, 0xFD],
      [0xCB, 0xFE], [0xCB, 0xFF], [0xED, 0x40], [0xED, 0x41], [0xED, 0x42],
      [0xED, 0x43, 0x34, 0x12], [0xED, 0x44], [0xED, 0x45], [0xED, 0x46], [0xED, 0x47],
      [0xED, 0x48], [0xED, 0x49], [0xED, 0x4A], [0xED, 0x4B, 0x34, 0x12]] : List (List Byte)).map decode =
      [
        .ok (.res_4_H, []), .ok (.res_4_L, []), .ok (.res_4_mHL, []), .ok (.res_4_A, []),
        .ok (.res_5_B, []), .ok (.res_5_C, []), .ok (.res_5_D, []), .ok (.res_5_E, []),
        .ok (.res_5_H, []), .ok (.res_5_L, []), .ok (.res_5_mHL, []), .ok (.res_5_A, []),
        .ok (.res_6_B, []), .ok (.res_6_C, []), .ok (.res_6_D, []), .ok (.res_6_E, []),
        .ok (.res_6_H, []), .ok (.res_6_L, []), .ok (.res_6_mHL, []), .ok (.res_6_A, []),
        .ok (.res_7_B, []), .ok (.res_7_C, []), .ok (.res_7_D, []), .ok (.res_7_E, []),
        .ok (.res_7_H, []), .ok (.res_7_L, []), .ok (.res_7_mHL, []), .ok (.res_7_A, []),
        .ok (.set_0_B, []), .ok (.set_0_C, []), .ok (.set_0_D, []), .ok (.set_0_E, []),
        .ok (.set_0_H, []), .ok (.set_0_L, []), .ok (.set_0_mHL, []), .ok (.set_0_A, []),
        .ok (.set_1_B, []), .ok (.set_1_C, []), .ok (.set_1_D, []), .ok (.set_1_E, []),
        .ok (.set_1_H, []), .ok (.set_1_L, []), .ok (.set_1_mHL, []), .ok (.set_1_A, []),
        .ok (.set_2_B, []), .ok (.set_2_C, []), .ok (.set_2_D, []), .ok (.set_2_E, []),
        .ok (.set_2_H, []), .ok (.set_2_L, []), .ok (.set_2_mHL, []), .ok (.set_2_A, []),
        .ok (.set_3_B, []), .ok (.set_3_C, []), .ok (.set_3_D, []), .ok (.set_3_E, []),
        .ok (.set_3_H, []), .ok (.set_3_L, []), .ok (.set_3_mHL, []), .ok (.set_3_A, []),
        .ok (.set_4_B, []), .ok (.set_4_C, []), .ok (.set_4_D, []), .ok (.set_4_E, []),
        .ok (.set_4_H, []), .ok (.set_4_L, []), .ok (.set_4_mHL, []), .ok (.set_4_A, []),
        .ok (.set_5_B, []), .ok (.set_5_C, []), .ok (.set_5_D, []), .ok (.set_5_E, []),
        .ok (.set_5_H, []), .ok (.set_5_L, []), .ok (.set_5_mHL, []), .ok (.set_5_A, []),
        .ok (.set_6_B, []), .ok (.set_6_C, []), .ok (.set_6_D, []), .ok (.set_6_E, []),
        .ok (.set_6_H, []), .ok (.set_6_L, []), .ok (.set_6_mHL, []), .ok (.set_6_A, []),
        .ok (.set_7_B, []), .ok (.set_7_C, []), .ok (.set_7_D, []), .ok (.set_7_E, []),
        .ok (.set_7_H, []), .ok (.set_7_L, []), .ok (.set_7_mHL, []), .ok (.set_7_A, []),
        .ok (.in_B_pC, []), .ok (.out_pC_B, []), .ok (.sbc_HL_BC, []),
        .ok (.ld_mnn_BC 0x1234, []), .ok (.neg, []), .ok (.retn, []), .ok (.im_0, []),
        .ok (.ld_I_A, []), .ok (.in_C_pC, []), .ok (.out_pC_C, []), .ok (.adc_HL_BC, []),
        .ok (.ld_BC_mnn 0x1234, [])] :=
  rfl

theorem test_decode_rows_520 :
    ([
      [0xED, 0x4D], [0xED, 0x4F], [0xED, 0x50], [0xED, 0x51], [0xED, 0x52],
      [0xED, 0x53, 0x34, 0x12], [0xED, 0x56], [0xED, 0x57], [0xED, 0x58], [0xED, 0x59],
      [0xED, 0x5A], [0xED, 0x5B, 0x34, 0x12], [0xED, 0x5E], [0xED, 0x5F], [0xED, 0x60],
      [0xED, 0x61], [0xED, 0x62], [0xED, 0x63, 0x34, 0x12], [0xED, 0x67], [0xED, 0x68],
      [0xED, 0x69], [0xED, 0x6A], [0xED, 0x6B, 0x34, 0x12], [0xED, 0x6F], [0xED, 0x72],
      [0xED, 0x73, 0x34, 0x12], [0xED, 0x78], [0xED, 0x79], [0xED, 0x7A],
      [0xED, 0x7B, 0x34, 0x12], [0xED, 0xA0], [0xED, 0xA1], [0xED, 0xA2], [0xED, 0xA3],
      [0xED, 0xA8], [0xED, 0xA9], [0xED, 0xAA], [0xED, 0xAB], [0xED, 0xB0], [0xED, 0xB1],
      [0xED, 0xB2], [0xED, 0xB3], [0xED, 0xB8], [0xED, 0xB9], [0xED, 0xBA], [0xED, 0xBB],
      [0xDD, 0x09], [0xDD, 0x19], [0xDD, 0x21, 0x34, 0x12], [0xDD, 0x22, 0x34, 0x12],
      [0xDD, 0x23], [0xDD, 0x24], [0xDD, 0x25], [0xDD, 0x26, 0x34], [0xDD, 0x29],
      [0xDD, 0x2A, 0x34, 0x12], [0xDD, 0x2B], [0xDD, 0x2C], [0xDD, 0x2D], [0xDD, 0x2E, 0x34],
      [0xDD, 0x34, 0x85], [0xDD, 0x35, 0x85], [0xDD, 0x36, 0x85, 0x34], [0xDD, 0x39],
      [0xDD, 0x44], [0xDD, 0x45], [0xDD, 0x46, 0x85], [0xDD, 0x4C], [0xDD, 0x4D],
      [0xDD, 0x4E, 0x85], [0xDD, 0x54], [0xDD, 0x55], [0xDD, 0x56, 0x85], [0xDD, 0x5C],
      [0xDD, 0x5D], [0xDD, 0x5E, 0x85], [0xDD, 0x60], [0xDD, 0x61], [0xDD, 0x62], [0xDD, 0x63],
      [0xDD, 0x64], [0xDD, 0x65], [0xDD, 0x66, 0x85], [0xDD, 0x67], [0xDD, 0x68], [0xDD, 0x69],
      [0xDD, 0x6A], [0xDD, 0x6B], [0xDD, 0x6C], [0xDD, 0x6D], [0xDD, 0x6E, 0x85], [0xDD, 0x6F],
      [0xDD, 0x70, 0x85], [0xDD, 0x71, 0x85], [0xDD, 0x72, 0x85], [0xDD, 0x73, 0x85],
      [0xDD, 0x74, 0x85], [0xDD, 0x75, 0x85], [0xDD, 0x77, 0x85], [0xDD, 0x7C], [0xDD, 0x7D],
      [0xDD, 0x7E, 0x85], [0xDD, 0x84], [0xDD, 0x85]] : List (List Byte)).map decode =
      [
        .ok (.reti, []), .ok (.ld_R_A, []), .ok (.in_D_pC, []), .ok (.out_pC_D, []),
        .ok (.sbc_HL_DE, []), .ok (.ld_mnn_DE 0x1234, []), .ok (.im_1, []), .ok (.ld_A_I, []),
        .ok (.in_E_pC, []), .ok (.out_pC_E, []), .ok (.adc_HL_DE, []),
        .ok (.ld_DE_mnn 0x1234, []), .ok (.im_2, []), .ok (.ld_A_R, []), .ok (.in_H_pC, []),
        .ok (.out_pC_H, []), .ok (.sbc_HL_HL, []), .ok (.ld_mnn_HL_ed 0x1234, []),
        .ok (.rrd, []), .ok (.in_L_pC, []), .ok (.out_pC_L, []), .ok (.adc_HL_HL, []),
        .ok (.ld_HL_mnn_ed 0x1234, []), .ok (.rld, []), .ok (.sbc_HL_SP, []),
        .ok (.ld_mnn_SP 0x1234, []), .ok (.in_A_pC, []), .ok (.out_pC_A, []),
        .ok (.adc_HL_SP, []), .ok (.ld_SP_mnn 0x1234, []), .ok (.ldi, []), .ok (.cpi, []),
        .ok (.ini, []), .ok (.outi, []), .ok (.ldd, []), .ok (.cpd, []), .ok (.ind, []),
        .ok (.outd, []), .ok (.ldir, []), .ok (.cpir, []), .ok (.inir, []), .ok (.otir, []),
        .ok (.lddr, []), .ok (.cpdr, []), .ok (.indr, []), .ok (.otdr, []), .ok (.add_IX_BC, []),
        .ok (.add_IX_DE, []), .ok (.ld_IX_nn 0x1234, []), .ok (.ld_mnn_IX 0x1234, []),
        .ok (.inc_IX, []), .ok (.inc_IXH, []), .ok (.dec_IXH, []), .ok (.ld_IXH_n 0x34, []),
        .ok (.add_IX_IX, []), .ok (.ld_IX_mnn 0x1234, []), .ok (.dec_IX, []), .ok (.inc_IXL, []),
        .ok (.dec_IXL, []), .ok (.ld_IXL_n 0x34, []), .ok (.inc_mIXd 0x85, []),
        .ok (.dec_mIXd 0x85, []), .ok (.ld_mIXd_n 0x85 0x34, []), .ok (.add_IX_SP, []),
        .ok (.ld_B_IXH, []), .ok (.ld_B_IXL, []), .ok (.ld_B_mIXd 0x85, []), .ok (.ld_C_IXH, []),
        .ok (.ld_C_IXL, []), .ok (.ld_C_mIXd 0x85, []), .ok (.ld_D_IXH, []), .ok (.ld_D_IXL, []),
        .ok (.ld_D_mIXd 0x85, []), .ok (.ld_E_IXH, []), .ok (.ld_E_IXL, []),
        .ok (.ld_E_mIXd 0x85, []), .ok (.ld_IXH_B, []), .ok (.ld_IXH_C, []), .ok (.ld_IXH_D, []),
        .ok (.ld_IXH_E, []), .ok (.ld_IXH_IXH, []), .ok (.ld_IXH_IXL, []),
        .ok (.ld_H_mIXd 0x85, []), .ok (.ld_IXH_A, []), .ok (.ld_IXL_B, []), .ok (.ld_IXL_C, []),
        .ok (.ld_IXL_D, []), .ok (.ld_IXL_E, []), .ok (.ld_IXL_IXH, []), .ok (.ld_IXL_IXL, []),
        .ok (.ld_L_mIXd 0x85, []), .ok (.ld_IXL_A, []), .ok (.ld_mIXd_B 0x85, []),
        .ok (.ld_mIXd_C 0x85, []), .ok (.ld_mIXd_D 0x85, []), .ok (.ld_mIXd_E 0x85, []),
        .ok (.ld_mIXd_H 0x85, []), .ok (.ld_mIXd_L 0x85, []), .ok (.ld_mIXd_A 0x85, []),
        .ok (.ld_A_IXH, []), .ok (.ld_A_IXL, []), .ok (.ld_A_mIXd 0x85, []),
        .ok (.add_A_IXH, []), .ok (.add_A_IXL, [])] :=
  rfl

theorem test_decode_rows_624 :
    ([
      [0xDD, 0x86, 0x85], [0xDD, 0x8C], [0xDD, 0x8D], [0xDD, 0x8E, 0x85], [0xDD, 0x94],
      [0xDD, 0x95], [0xDD, 0x96, 0x85], [0xDD, 0x9C], [0xDD, 0x9D], [0xDD, 0x9E, 0x85],
      [0xDD, 0xA4], [0xDD, 0xA5], [0xDD, 0xA6, 0x85], [0xDD, 0xAC], [0xDD, 0xAD],
      [0xDD, 0xAE, 0x85], [0xDD, 0xB4], [0xDD, 0xB5], [0xDD, 0xB6, 0x85], [0xDD, 0xBC],
      [0xDD, 0xBD], [0xDD, 0xBE, 0x85], [0xDD, 0xE1], [0xDD, 0xE3], [0xDD, 0xE5], [0xDD, 0xE9],
      [0xDD, 0xF9], [0xDD, 0xCB, 0x85, 0x00], [0xDD, 0xCB, 0x85, 0x01], [0xDD, 0xCB, 0x85, 0x02],
      [0xDD, 0xCB, 0x85, 0x03], [0xDD, 0xCB, 0x85, 0x04], [0xDD, 0xCB, 0x85, 0x05],
      [0xDD, 0xCB, 0x85, 0x06], [0xDD, 0xCB, 0x85, 0x07], [0xDD, 0xCB, 0x85, 0x08],
      [0xDD, 0xCB, 0x85, 0x09], [0xDD, 0xCB, 0x85, 0x0A], [0xDD, 0xCB, 0x85, 0x0B],
      [0xDD, 0xCB, 0x85, 0x0C], [0xDD, 0xCB, 0x85, 0x0D], [0xDD, 0xCB, 0x85, 0x0E],
      [0xDD, 0xCB, 0x85, 0x0F], [0xDD, 0xCB, 0x85, 0x10], [0xDD, 0xCB, 0x85, 0x11],
      [0xDD, 0xCB, 0x85, 0x12], [0xDD, 0xCB, 0x85, 0x13], [0xDD, 0xCB, 0x85, 0x14],
      [0xDD, 0xCB, 0x85, 0x15], [0xDD, 0xCB, 0x85, 0x16], [0xDD, 0xCB, 0x85, 0x17],
      [0xDD, 0xCB, 0x85, 0x18], [0xDD, 0xCB, 0x85, 0x19], [0xDD, 0xCB, 0x85, 0x1A],
      [0xDD, 0xCB, 0x85, 0x1B], [0xDD, 0xCB, 0x85, 0x1C], [0xDD, 0xCB, 0x85, 0x1D],
      [0xDD, 0xCB, 0x85, 0x1E], [0xDD, 0xCB, 0x85, 0x1F], [0xDD, 0xCB, 0x85, 0x20],
      [0xDD, 0xCB, 0x85, 0x21], [0xDD, 0xCB, 0x85, 0x22], [0xDD, 0xCB, 0x85, 0x23],
      [0xDD, 0xCB, 0x85, 0x24], [0xDD, 0xCB, 0x85, 0x25], [0xDD, 0xCB, 0x85, 0x26],
      [0xDD, 0xCB, 0x85, 0x27], [0xDD, 0xCB, 0x85, 0x28], [0xDD, 0xCB, 0x85, 0x29],
      [0xDD, 0xCB, 0x85, 0x2A], [0xDD, 0xCB, 0x85, 0x2B], [0xDD, 0xCB, 0x85, 0x2C],
      [0xDD, 0xCB, 0x85, 0x2D], [0xDD, 0xCB, 0x85, 0x2E], [0xDD, 0xCB, 0x85, 0x2F],
      [0xDD, 0xCB, 0x85, 0x30], [0xDD, 0xCB, 0x85, 0x31], [0xDD, 0xCB, 0x85, 0x32],
      [0xDD, 0xCB, 0x85, 0x33], [0xDD, 0xCB, 0x85, 0x34], [0xDD, 0xCB, 0x85, 0x35],
      [0xDD, 0xCB, 0x85, 0x36], [0xDD, 0xCB, 0x85, 0x37], [0xDD, 0xCB, 0x85, 0x38],
      [0xDD, 0xCB, 0x85, 0x39], [0xDD, 0xCB, 0x85, 0x3A], [0xDD, 0xCB, 0x85, 0x3B],
      [0xDD, 0xCB, 0x85, 0x3C], [0xDD, 0xCB, 0x85, 0x3D], [0xDD, 0xCB, 0x85, 0x3E],
      [0xDD, 0xCB, 0x85, 0x3F], [0xDD, 0xCB, 0x85, 0x40], [0xDD, 0xCB, 0x85, 0x41],
      [0xDD, 0xCB, 0x85, 0x42], [0xDD, 0xCB, 0x85, 0x43], [0xDD, 0xCB, 0x85, 0x44],
      [0xDD, 0xCB, 0x85, 0x45], [0xDD, 0xCB, 0x85, 0x46], [0xDD, 0xCB, 0x85, 0x47],
      [0xDD, 0xCB, 0x85, 0x48], [0xDD, 0xCB, 0x85, 0x49], [0xDD, 0xCB, 0x85, 0x4A],
      [0xDD, 0xCB, 0x85, 0x4B], [0xDD, 0xCB, 0x85, 0x4C]] : List (List Byte)).map decode =
      [
        .ok (.add_A_mIXd 0x85, []), .ok (.adc_A_IXH, []), .ok (.adc_A_IXL, []),
        .ok (.adc_A_mIXd 0x85, []), .ok (.sub_IXH, []), .ok (.sub_IXL, []),
        .ok (.sub_mIXd 0x85, []), .ok (.sbc_A_IXH, []), .ok (.sbc_A_IXL, []),
        .ok (.sbc_A_mIXd 0x85, []), .ok (.and_IXH, []), .ok (.and_IXL, []),
        .ok (.and_mIXd 0x85, []), .ok (.xor_IXH, []), .ok (.xor_IXL, []),
        .ok (.xor_mIXd 0x85, []), .ok (.or_IXH, []), .ok (.or_IXL, []), .ok (.or_mIXd 0x85, []),
        .ok (.cp_IXH, []), .ok (.cp_IXL, []), .ok (.cp_mIXd 0x85, []), .ok (.pop_IX, []),
        .ok (.ex_mSP_IX, []), .ok (.push_IX, []), .ok (.jp_mIX, []), .ok (.ld_SP_IX, []),
        .ok (.rlc_mIXd_B 0x85, []), .ok (.rlc_mIXd_C 0x85, []), .ok (.rlc_mIXd_D 0x85, []),
        .ok (.rlc_mIXd_E 0x85, []), .ok (.rlc_mIXd_H 0x85, []), .ok (.rlc_mIXd_L 0x85, []),
        .ok (.rlc_mIXd 0x85, []), .ok (.rlc_mIXd_A 0x85, []), .ok (.rrc_mIXd_B 0x85, []),
        .ok (.rrc_mIXd_C 0x85, []), .ok (.rrc_mIXd_D 0x85, []), .ok (.rrc_mIXd_E 0x85, []),
        .ok (.rrc_mIXd_H 0x85, []), .ok (.rrc_mIXd_L 0x85, []), .ok (.rrc_mIXd 0x85, []),
        .ok (.rrc_mIXd_A 0x85, []), .ok (.rl_mIXd_B 0x85, []), .ok (.rl_mIXd_C 0x85, []),
        .ok (.rl_mIXd_D 0x85, []), .ok (.rl_mIXd_E 0x85, []), .ok (.rl_mIXd_H 0x85, []),
        .ok (.rl_mIXd_L 0x85, []), .ok (.rl_mIXd 0x85, []), .ok (.rl_mIXd_A 0x85, []),
        .ok (.rr_mIXd_B 0x85, []), .ok (.rr_mIXd_C 0x85, []), .ok (.rr_mIXd_D 0x85, []),
        .ok (.rr_mIXd_E 0x85, []), .ok (.rr_mIXd_H 0x85, []), .ok (.rr_mIXd_L 0x85, []),
        .ok (.rr_mIXd 0x85, []), .ok (.rr_mIXd_A 0x85, []), .ok (.sla_mIXd_B 0x85, []),
        .ok (.sla_mIXd_C 0x85, []), .ok (.sla_mIXd_D 0x85, []), .ok (.sla_mIXd_E 0x85, []),
        .ok (.sla_mIXd_H 0x85, []), .ok (.sla_mIXd_L 0x85, []), .ok (.sla_mIXd 0x85, []),
        .ok (.sla_mIXd_A 0x85, []), .ok (.sra_mIXd_B 0x85, []), .ok (.sra_mIXd_C 0x85, []),
        .ok (.sra_mIXd_D 0x85, []), .ok (.sra_mIXd_E 0x85, []), .ok (.sra_mIXd_H 0x85, []),
        .ok (.sra_mIXd_L 0x85, []), .ok (.sra_mIXd 0x85, []), .ok (.sra_mIXd_A 0x85, []),
        .ok (.sll_mIXd_B 0x85, []), .ok (.sll_mIXd_C 0x85, []), .ok (.sll_mIXd_D 0x85, []),
        .ok (.sll_mIXd_E 0x85, []), .ok (.sll_mIXd_H 0x85, []), .ok (.sll_mIXd_L 0x85, []),
        .ok (.sll_mIXd 0x85, []), .ok (.sll_mIXd_A 0x85, []), .ok (.srl_mIXd_B 0x85, []),
        .ok (.srl_mIXd_C 0x85, []), .ok (.srl_mIXd_D 0x85, []), .ok (.srl_mIXd_E 0x85, []),
        .ok (.srl_mIXd_H 0x85, []), .ok (.srl_mIXd_L 0x85, []), .ok (.srl_mIXd 0x85, []),
        .ok (.srl_mIXd_A 0x85, []), .ok (.bit_0_mIXd_z0 0x85, []), .ok (.bit_0_mIXd_z1 0x85, []),
        .ok (.bit_0_mIXd_z2 0x85, []), .ok (.bit_0_mIXd_z3 0x85, []),
        .ok (.bit_0_mIXd_z4 0x85, []), .ok (.bit_0_mIXd_z5 0x85, []),
        .ok (.bit_0_mIXd_z6 0x85, []), .ok (.bit_0_mIXd_z7 0x85, []),
        .ok (.bit_1_mIXd_z0 0x85, []), .ok (.bit_1_mIXd_z1 0x85, []),
        .ok (.bit_1_mIXd_z2 0x85, []), .ok (.bit_1_mIXd_z3 0x85, []),
        .ok (.bit_1_mIXd_z4 0x85, [])] :=
  rfl

theorem test_decode_rows_728 :
    ([
      [0xDD, 0xCB, 0x85, 0x4D], [0xDD, 0xCB, 0x85, 0x4E], [0xDD, 0xCB, 0x85, 0x4F],
      [0xDD, 0xCB, 0x85, 0x50], [0xDD, 0xCB, 0x85, 0x51], [0xDD, 0xCB, 0x85, 0x52],
      [0xDD, 0xCB, 0x85, 0x53], [0xDD, 0xCB, 0x85, 0x54], [0xDD, 0xCB, 0x85, 0x55],
      [0xDD, 0xCB, 0x85, 0x56], [0xDD, 0xCB, 0x85, 0x57], [0xDD, 0xCB, 0x85, 0x58],
      [0xDD, 0xCB, 0x85, 0x59], [0xDD, 0xCB, 0x85, 0x5A], [0xDD, 0xCB, 0x85, 0x5B],
      [0xDD, 0xCB, 0x85, 0x5C], [0xDD, 0xCB, 0x85, 0x5D], [0xDD, 0xCB, 0x85, 0x5E],
      [0xDD, 0xCB, 0x85, 0x5F], [0xDD, 0xCB, 0x85, 0x60], [0xDD, 0xCB, 0x85, 0x61],
      [0xDD, 0xCB, 0x85, 0x62], [0xDD, 0xCB, 0x85, 0x63], [0xDD, 0xCB, 0x85, 0x64],
      [0xDD, 0xCB, 0x85, 0x65], [0xDD, 0xCB, 0x85, 0x66], [0xDD, 0xCB, 0x85, 0x67],
      [0xDD, 0xCB, 0x85, 0x68], [0xDD, 0xCB, 0x85, 0x69], [0xDD, 0xCB, 0x85, 0x6A],
      [0xDD, 0xCB, 0x85, 0x6B], [0xDD, 0xCB, 0x85, 0x6C], [0xDD, 0xCB, 0x85, 0x6D],
      [0xDD, 0xCB, 0x85, 0x6E], [0xDD, 0xCB, 0x85, 0x6F], [0xDD, 0xCB, 0x85, 0x70],
      [0xDD, 0xCB, 0x85, 0x71], [0xDD, 0xCB, 0x85, 0x72], [0xDD, 0xCB, 0x85, 0x73],
      [0xDD, 0xCB, 0x85, 0x74], [0xDD, 0xCB, 0x85, 0x75], [0xDD, 0xCB, 0x85, 0x76],
      [0xDD, 0xCB, 0x85, 0x77], [0xDD, 0xCB, 0x85, 0x78], [0xDD, 0xCB, 0x85, 0x79],
      [0xDD, 0xCB, 0x85, 0x7A], [0xDD, 0xCB, 0x85, 0x7B], [0xDD, 0xCB, 0x85, 0x7C],
      [0xDD, 0xCB, 0x85, 0x7D], [0xDD, 0xCB, 0x85, 0x7E], [0xDD, 0xCB, 0x85, 0x7F],
      [0xDD, 0xCB, 0x85, 0x80], [0xDD, 0xCB, 0x85, 0x81], [0xDD, 0xCB, 0x85, 0x82],
      [0xDD, 0xCB, 0x85, 0x83], [0xDD, 0xCB, 0x85, 0x84], [0xDD, 0xCB, 0x85, 0x85],
      [0xDD, 0xCB, 0x85, 0x86], [0xDD, 0xCB, 0x85, 0x87], [0xDD, 0xCB, 0x85, 0x88],
      [0xDD, 0xCB, 0x85, 0x89], [0xDD, 0xCB, 0x85, 0x8A], [0xDD, 0xCB, 0x85, 0x8B],
      [0xDD, 0xCB, 0x85, 0x8C], [0xDD, 0xCB, 0x85, 0x8D], [0xDD, 0xCB, 0x85, 0x8E],
      [0xDD, 0xCB, 0x85, 0x8F], [0xDD, 0xCB, 0x85, 0x90], [0xDD, 0xCB, 0x85, 0x91],
      [0xDD, 0xCB, 0x85, 0x92], [0xDD, 0xCB, 0x85, 0x93], [0xDD, 0xCB, 0x85, 0x94],
      [0xDD, 0xCB, 0x85, 0x95], [0xDD, 0xCB, 0x85, 0x96], [0xDD, 0xCB, 0x85, 0x97],
      [0xDD, 0xCB, 0x85, 0x98], [0xDD, 0xCB, 0x85, 0x99], [0xDD, 0xCB, 0x85, 0x9A],
      [0xDD, 0xCB, 0x85, 0x9B], [0xDD, 0xCB, 0x85, 0x9C], [0xDD, 0xCB, 0x85, 0x9D],
      [0xDD, 0xCB, 0x85, 0x9E], [0xDD, 0xCB, 0x85, 0x9F], [0xDD, 0xCB, 0x85, 0xA0],
      [0xDD, 0xCB, 0x85, 0xA1], [0xDD, 0xCB, 0x85, 0xA2], [0xDD, 0xCB, 0x85, 0xA3],
      [0xDD, 0xCB, 0x85, 0xA4], [0xDD, 0xCB, 0x85, 0xA5], [0xDD, 0xCB, 0x85, 0xA6],
      [0xDD, 0xCB, 0x85, 0xA7], [0xDD, 0xCB, 0x85, 0xA8], [0xDD, 0xCB, 0x85, 0xA9],
      [0xDD, 0xCB, 0x85, 0xAA], [0xDD, 0xCB, 0x85, 0xAB], [0xDD, 0xCB, 0x85, 0xAC],
      [0xDD, 0xCB, 0x85, 0xAD], [0xDD, 0xCB, 0x85, 0xAE], [0xDD, 0xCB, 0x85, 0xAF],
      [0xDD, 0xCB, 0x85, 0xB0], [0xDD, 0xCB, 0x85, 0xB1], [0xDD, 0xCB, 0x85, 0xB2],
      [0xDD, 0xCB, 0x85, 0xB3], [0xDD, 0xCB, 0x85, 0xB4]] : List (List Byte)).map decode =
      [
        .ok (.bit_1_mIXd_z5 0x85, []), .ok (.bit_1_mIXd_z6 0x85, []),
        .ok (.bit_1_mIXd_z7 0x85, []), .ok (.bit_2_mIXd_z0 0x85, []),
        .ok (.bit_2_mIXd_z1 0x85, []), .ok (.bit_2_mIXd_z2 0x85, []),
        .ok (.bit_2_mIXd_z3 0x85, []), .ok (.bit_2_mIXd_z4 0x85, []),
        .ok (.bit_2_mIXd_z5 0x85, []), .ok (.bit_2_mIXd_z6 0x85, []),
        .ok (.bit_2_mIXd_z7 0x85, []), .ok (.bit_3_mIXd_z0 0x85, []),
        .ok (.bit_3_mIXd_z1 0x85, []), .ok (.bit_3_mIXd_z2 0x85, []),
        .ok (.bit_3_mIXd_z3 0x85, []), .ok (.bit_3_mIXd_z4 0x85, []),
        .ok (.bit_3_mIXd_z5 0x85, []), .ok (.bit_3_mIXd_z6 0x85, []),
        .ok (.bit_3_mIXd_z7 0x85, []), .ok (.bit_4_mIXd_z0 0x85, []),
        .ok (.bit_4_mIXd_z1 0x85, []), .ok (.bit_4_mIXd_z2 0x85, []),
        .ok (.bit_4_mIXd_z3 0x85, []), .ok (.bit_4_mIXd_z4 0x85, []),
        .ok (.bit_4_mIXd_z5 0x85, []), .ok (.bit_4_mIXd_z6 0x85, []),
        .ok (.bit_4_mIXd_z7 0x85, []), .ok (.bit_5_mIXd_z0 0x85, []),
        .ok (.bit_5_mIXd_z1 0x85, []), .ok (.bit_5_mIXd_z2 0x85, []),
        .ok (.bit_5_mIXd_z3 0x85, []), .ok (.bit_5_mIXd_z4 0x85, []),
        .ok (.bit_5_mIXd_z5 0x85, []), .ok (.bit_5_mIXd_z6 0x85, []),
        .ok (.bit_5_mIXd_z7 0x85, []), .ok (.bit_6_mIXd_z0 0x85, []),
        .ok (.bit_6_mIXd_z1 0x85, []), .ok (.bit_6_mIXd_z2 0x85, []),
        .ok (.bit_6_mIXd_z3 0x85, []), .ok (.bit_6_mIXd_z4 0x85, []),
        .ok (.bit_6_mIXd_z5 0x85, []), .ok (.bit_6_mIXd_z6 0x85, []),
        .ok (.bit_6_mIXd_z7 0x85, []), .ok (.bit_7_mIXd_z0 0x85, []),
        .ok (.bit_7_mIXd_z1 0x85, []), .ok (.bit_7_mIXd_z2 0x85, []),
        .ok (.bit_7_mIXd_z3 0x85, []), .ok (.bit_7_mIXd_z4 0x85, []),
        .ok (.bit_7_mIXd_z5 0x85, []), .ok (.bit_7_mIXd_z6 0x85, []),
        .ok (.bit_7_mIXd_z7 0x85, []), .ok (.res_0_mIXd_B 0x85, []),
        .ok (.res_0_mIXd_C 0x85, []), .ok (.res_0_mIXd_D 0x85, []), .ok (.res_0_mIXd_E 0x85, []),
        .ok (.res_0_mIXd_H 0x85, []), .ok (.res_0_mIXd_L 0x85, []), .ok (.res_0_mIXd 0x85, []),
        .ok (.res_0_mIXd_A 0x85, []), .ok (.res_1_mIXd_B 0x85, []), .ok (.res_1_mIXd_C 0x85, []),
        .ok (.res_1_mIXd_D 0x85, []), .ok (.res_1_mIXd_E 0x85, []), .ok (.res_1_mIXd_H 0x85, []),
        .ok (.res_1_mIXd_L 0x85, []), .ok (.res_1_mIXd 0x85, []), .ok (.res_1_mIXd_A 0x85, []),
        .ok (.res_2_mIXd_B 0x85, []), .ok (.res_2_mIXd_C 0x85, []), .ok (.res_2_mIXd_D 0x85, []),
        .ok (.res_2_mIXd_E 0x85, []), .ok (.res_2_mIXd_H 0x85, []), .ok (.res_2_mIXd_L 0x85, []),
        .ok (.res_2_mIXd 0x85, []), .ok (.res_2_mIXd_A 0x85, []), .ok (.res_3_mIXd_B 0x85, []),
        .ok (.res_3_mIXd_C 0x85, []), .ok (.res_3_mIXd_D 0x85, []), .ok (.res_3_mIXd_E 0x85, []),
        .ok (.res_3_mIXd_H 0x85, []), .ok (.res_3_mIXd_L 0x85, []), .ok (.res_3_mIXd 0x85, []),
        .ok (.res_3_mIXd_A 0x85, []), .ok (.res_4_mIXd_B 0x85, []), .ok (.res_4_mIXd_C 0x85, []),
        .ok (.res_4_mIXd_D 0x85, []), .ok (.res_4_mIXd_E 0x85, []), .ok (.res_4_mIXd_H 0x85, []),
        .ok (.res_4_mIXd_L 0x85, []), .ok (.res_4_mIXd 0x85, []), .ok (.res_4_mIXd_A 0x85, []),
        .ok (.res_5_mIXd_B 0x85, []), .ok (.res_5_mIXd_C 0x85, []), .ok (.res_5_mIXd_D 0x85, []),
        .ok (.res_5_mIXd_E 0x85, []), .ok (.res_5_mIXd_H 0x85, []), .ok (.res_5_mIXd_L 0x85, []),
        .ok (.res_5_mIXd 0x85, []), .ok (.res_5_mIXd_A 0x85, []), .ok (.res_6_mIXd_B 0x85, []),
        .ok (.res_6_mIXd_C 0x85, []), .ok (.res_6_mIXd_D 0x85, []), .ok (.res_6_mIXd_E 0x85, []),
        .ok (.res_6_mIXd_H 0x85, [])] :=
  rfl

theorem test_decode_rows_832 :
    ([
      [0xDD, 0xCB, 0x85, 0xB5], [0xDD, 0xCB, 0x85, 0xB6], [0xDD, 0xCB, 0x85, 0xB7],
      [0xDD, 0xCB, 0x85, 0xB8], [0xDD, 0xCB, 0x85, 0xB9], [0xDD, 0xCB, 0x85, 0xBA],
      [0xDD, 0xCB, 0x85, 0xBB], [0xDD, 0xCB, 0x85, 0xBC], [0xDD, 0xCB, 0x85, 0xBD],
      [0xDD, 0xCB, 0x85, 0xBE], [0xDD, 0xCB, 0x85, 0xBF], [0xDD, 0xCB, 0x85, 0xC0],
      [0xDD, 0xCB, 0x85, 0xC1], [0xDD, 0xCB, 0x85, 0xC2], [0xDD, 0xCB, 0x85, 0xC3],
      [0xDD, 0xCB, 0x85, 0xC4], [0xDD, 0xCB, 0x85, 0xC5], [0xDD, 0xCB, 0x85, 0xC6],
      [0xDD, 0xCB, 0x85, 0xC7], [0xDD, 0xCB, 0x85, 0xC8], [0xDD, 0xCB, 0x85, 0xC9],
      [0xDD, 0xCB, 0x85, 0xCA], [0xDD, 0xCB, 0x85, 0xCB], [0xDD, 0xCB, 0x85, 0xCC],
      [0xDD, 0xCB, 0x85, 0xCD], [0xDD, 0xCB, 0x85, 0xCE], [0xDD, 0xCB, 0x85, 0xCF],
      [0xDD, 0xCB, 0x85, 0xD0], [0xDD, 0xCB, 0x85, 0xD1], [0xDD, 0xCB, 0x85, 0xD2],
      [0xDD, 0xCB, 0x85, 0xD3], [0xDD, 0xCB, 0x85, 0xD4], [0xDD, 0xCB, 0x85, 0xD5],
      [0xDD, 0xCB, 0x85, 0xD6], [0xDD, 0xCB, 0x85, 0xD7], [0xDD, 0xCB, 0x85, 0xD8],
      [0xDD, 0xCB, 0x85, 0xD9], [0xDD, 0xCB, 0x85, 0xDA], [0xDD, 0xCB, 0x85, 0xDB],
      [0xDD, 0xCB, 0x85, 0xDC], [0xDD, 0xCB, 0x85, 0xDD], [0xDD, 0xCB, 0x85, 0xDE],
      [0xDD, 0xCB, 0x85, 0xDF], [0xDD, 0xCB, 0x85, 0xE0], [0xDD, 0xCB, 0x85, 0xE1],
      [0xDD, 0xCB, 0x85, 0xE2], [0xDD, 0xCB, 0x85, 0xE3], [0xDD, 0xCB, 0x85, 0xE4],
      [0xDD, 0xCB, 0x85, 0xE5], [0xDD, 0xCB, 0x85, 0xE6], [0xDD, 0xCB, 0x85, 0xE7],
      [0xDD, 0xCB, 0x85, 0xE8], [0xDD, 0xCB, 0x85, 0xE9], [0xDD, 0xCB, 0x85, 0xEA],
      [0xDD, 0xCB, 0x85, 0xEB], [0xDD, 0xCB, 0x85, 0xEC], [0xDD, 0xCB, 0x85, 0xED],
      [0xDD, 0xCB, 0x85, 0xEE], [0xDD, 0xCB, 0x85, 0xEF], [0xDD, 0xCB, 0x85, 0xF0],
      [0xDD, 0xCB, 0x85, 0xF1], [0xDD, 0xCB, 0x85, 0xF2], [0xDD, 0xCB, 0x85, 0xF3],
      [0xDD, 0xCB, 0x85, 0xF4], [0xDD, 0xCB, 0x85, 0xF5], [0xDD, 0xCB, 0x85, 0xF6],
      [0xDD, 0xCB, 0x85, 0xF7], [0xDD, 0xCB, 0x85, 0xF8], [0xDD, 0xCB, 0x85, 0xF9],
      [0xDD, 0xCB, 0x85, 0xFA], [0xDD, 0xCB, 0x85, 0xFB], [0xDD, 0xCB, 0x85, 0xFC],
      [0xDD, 0xCB, 0x85, 0xFD], [0xDD, 0xCB, 0x85, 0xFE], [0xDD, 0xCB, 0x85, 0xFF], [0xFD, 0x09],
      [0xFD, 0x19], [0xFD, 0x21, 0x34, 0x12], [0xFD, 0x22, 0x34, 0x12], [0xFD, 0x23],
      [0xFD, 0x24], [0xFD, 0x25], [0xFD, 0x26, 0x34], [0xFD, 0x29], [0xFD, 0x2A, 0x34, 0x12],
      [0xFD, 0x2B], [0xFD, 0x2C], [0xFD, 0x2D], [0xFD, 0x2E, 0x34], [0xFD, 0x34, 0x85],
      [0xFD, 0x35, 0x85], [0xFD, 0x36, 0x85, 0x34], [0xFD, 0x39], [0xFD, 0x44], [0xFD, 0x45],
      [0xFD, 0x46, 0x85], [0xFD, 0x4C], [0xFD, 0x4D], [0xFD, 0x4E, 0x85], [0xFD, 0x54],
      [0xFD, 0x55], [0xFD, 0x56, 0x85], [0xFD, 0x5C], [0xFD, 0x5D]] : List (List Byte)).map decode =
      [
        .ok (.res_6_mIXd_L 0x85, []), .ok (.res_6_mIXd 0x85, []), .ok (.res_6_mIXd_A 0x85, []),
        .ok (.res_7_mIXd_B 0x85, []), .ok (.res_7_mIXd_C 0x85, []), .ok (.res_7_mIXd_D 0x85, []),
        .ok (.res_7_mIXd_E 0x85, []), .ok (.res_7_mIXd_H 0x85, []), .ok (.res_7_mIXd_L 0x85, []),
        .ok (.res_7_mIXd 0x85, []), .ok (.res_7_mIXd_A 0x85, []), .ok (.set_0_mIXd_B 0x85, []),
        .ok (.set_0_mIXd_C 0x85, []), .ok (.set_0_mIXd_D 0x85, []), .ok (.set_0_mIXd_E 0x85, []),
        .ok (.set_0_mIXd_H 0x85, []), .ok (.set_0_mIXd_L 0x85, []), .ok (.set_0_mIXd 0x85, []),
        .ok (.set_0_mIXd_A 0x85, []), .ok (.set_1_mIXd_B 0x85, []), .ok (.set_1_mIXd_C 0x85, []),
        .ok (.set_1_mIXd_D 0x85, []), .ok (.set_1_mIXd_E 0x85, []), .ok (.set_1_mIXd_H 0x85, []),
        .ok (.set_1_mIXd_L 0x85, []), .ok (.set_1_mIXd 0x85, []), .ok (.set_1_mIXd_A 0x85, []),
        .ok (.set_2_mIXd_B 0x85, []), .ok (.set_2_mIXd_C 0x85, []), .ok (.set_2_mIXd_D 0x85, []),
        .ok (.set_2_mIXd_E 0x85, []), .ok (.set_2_mIXd_H 0x85, []), .ok (.set_2_mIXd_L 0x85, []),
        .ok (.set_2_mIXd 0x85, []), .ok (.set_2_mIXd_A 0x85, []), .ok (.set_3_mIXd_B 0x85, []),
        .ok (.set_3_mIXd_C 0x85, []), .ok (.set_3_mIXd_D 0x85, []), .ok (.set_3_mIXd_E 0x85, []),
        .ok (.set_3_mIXd_H 0x85, []), .ok (.set_3_mIXd_L 0x85, []), .ok (.set_3_mIXd 0x85, []),
        .ok (.set_3_mIXd_A 0x85, []), .ok (.set_4_mIXd_B 0x85, []), .ok (.set_4_mIXd_C 0x85, []),
        .ok (.set_4_mIXd_D 0x85, []), .ok (.set_4_mIXd_E 0x85, []), .ok (.set_4_mIXd_H 0x85, []),
        .ok (.set_4_mIXd_L 0x85, []), .ok (.set_4_mIXd 0x85, []), .ok (.set_4_mIXd_A 0x85, []),
        .ok (.set_5_mIXd_B 0x85, []), .ok (.set_5_mIXd_C 0x85, []), .ok (.set_5_mIXd_D 0x85, []),
        .ok (.set_5_mIXd_E 0x85, []), .ok (.set_5_mIXd_H 0x85, []), .ok (.set_5_mIXd_L 0x85, []),
        .ok (.set_5_mIXd 0x85, []), .ok (.set_5_mIXd_A 0x85, []), .ok (.set_6_mIXd_B 0x85, []),
        .ok (.set_6_mIXd_C 0x85, []), .ok (.set_6_mIXd_D 0x85, []), .ok (.set_6_mIXd_E 0x85, []),
        .ok (.set_6_mIXd_H 0x85, []), .ok (.set_6_mIXd_L 0x85, []), .ok (.set_6_mIXd 0x85, []),
        .ok (.set_6_mIXd_A 0x85, []), .ok (.set_7_mIXd_B 0x85, []), .ok (.set_7_mIXd_C 0x85, []),
        .ok (.set_7_mIXd_D 0x85, []), .ok (.set_7_mIXd_E 0x85, []), .ok (.set_7_mIXd_H 0x85, []),
        .ok (.set_7_mIXd_L 0x85, []), .ok (.set_7_mIXd 0x85, []), .ok (.set_7_mIXd_A 0x85, []),
        .ok (.add_IY_BC, []), .ok (.add_IY_DE, []), .ok (.ld_IY_nn 0x1234, []),
        .ok (.ld_mnn_IY 0x1234, []), .ok (.inc_IY, []), .ok (.inc_IYH, []), .ok (.dec_IYH, []),
        .ok (.ld_IYH_n 0x34, []), .ok (.add_IY_IY, []), .ok (.ld_IY_mnn 0x1234, []),
        .ok (.dec_IY, []), .ok (.inc_IYL, []), .ok (.dec_IYL, []), .ok (.ld_IYL_n 0x34, []),
        .ok (.inc_mIYd 0x85, []), .ok (.dec_mIYd 0x85, []), .ok (.ld_mIYd_n 0x85 0x34, []),
        .ok (.add_IY_SP, []), .ok (.ld_B_IYH, []), .ok (.ld_B_IYL, []),
        .ok (.ld_B_mIYd 0x85, []), .ok (.ld_C_IYH, []), .ok (.ld_C_IYL, []),
        .ok (.ld_C_mIYd 0x85, []), .ok (.ld_D_IYH, []), .ok (.ld_D_IYL, []),
        .ok (.ld_D_mIYd 0x85, []), .ok (.ld_E_IYH, []), .ok (.ld_E_IYL, [])] :=
  rfl

theorem test_decode_rows_936 :
    ([
      [0xFD, 0x5E, 0x85], [0xFD, 0x60], [0xFD, 0x61], [0xFD, 0x62], [0xFD, 0x63], [0xFD, 0x64],
      [0xFD, 0x65], [0xFD, 0x66, 0x85], [0xFD, 0x67], [0xFD, 0x68], [0xFD, 0x69], [0xFD, 0x6A],
      [0xFD, 0x6B], [0xFD, 0x6C], [0xFD, 0x6D], [0xFD, 0x6E, 0x85], [0xFD, 0x6F],
      [0xFD, 0x70, 0x85], [0xFD, 0x71, 0x85], [0xFD, 0x72, 0x85], [0xFD, 0x73, 0x85],
      [0xFD, 0x74, 0x85], [0xFD, 0x75, 0x85], [0xFD, 0x77, 0x85], [0xFD, 0x7C], [0xFD, 0x7D],
      [0xFD, 0x7E, 0x85], [0xFD, 0x84], [0xFD, 0x85], [0xFD, 0x86, 0x85], [0xFD, 0x8C],
      [0xFD, 0x8D], [0xFD, 0x8E, 0x85], [0xFD, 0x94], [0xFD, 0x95], [0xFD, 0x96, 0x85],
      [0xFD, 0x9C], [0xFD, 0x9D], [0xFD, 0x9E, 0x85], [0xFD, 0xA4], [0xFD, 0xA5],
      [0xFD, 0xA6, 0x85], [0xFD, 0xAC], [0xFD, 0xAD], [0xFD, 0xAE, 0x85], [0xFD, 0xB4],
      [0xFD, 0xB5], [0xFD, 0xB6, 0x85], [0xFD, 0xBC], [0xFD, 0xBD], [0xFD, 0xBE, 0x85],
      [0xFD, 0xE1], [0xFD, 0xE3], [0xFD, 0xE5], [0xFD, 0xE9], [0xFD, 0xF9],
      [0xFD, 0xCB, 0x85, 0x00], [0xFD, 0xCB, 0x85, 0x01], [0xFD, 0xCB, 0x85, 0x02],
      [0xFD, 0xCB, 0x85, 0x03], [0xFD, 0xCB, 0x85, 0x04], [0xFD, 0xCB, 0x85, 0x05],
      [0xFD, 0xCB, 0x85, 0x06], [0xFD, 0xCB, 0x85, 0x07], [0xFD, 0xCB, 0x85, 0x08],
      [0xFD, 0xCB, 0x85, 0x09], [0xFD, 0xCB, 0x85, 0x0A], [0xFD, 0xCB, 0x85, 0x0B],
      [0xFD, 0xCB, 0x85, 0x0C], [0xFD, 0xCB, 0x85, 0x0D], [0xFD, 0xCB, 0x85, 0x0E],
      [0xFD, 0xCB, 0x85, 0x0F], [0xFD, 0xCB, 0x85, 0x10], [0xFD, 0xCB, 0x85, 0x11],
      [0xFD, 0xCB, 0x85, 0x12], [0xFD, 0xCB, 0x85, 0x13], [0xFD, 0xCB, 0x85, 0x14],
      [0xFD, 0xCB, 0x85, 0x15], [0xFD, 0xCB, 0x85, 0x16], [0xFD, 0xCB, 0x85, 0x17],
      [0xFD, 0xCB, 0x85, 0x18], [0xFD, 0xCB, 0x85, 0x19], [0xFD, 0xCB, 0x85, 0x1A],
      [0xFD, 0xCB, 0x85, 0x1B], [0xFD, 0xCB, 0x85, 0x1C], [0xFD, 0xCB, 0x85, 0x1D],
      [0xFD, 0xCB, 0x85, 0x1E], [0xFD, 0xCB, 0x85, 0x1F], [0xFD, 0xCB, 0x85, 0x20],
      [0xFD, 0xCB, 0x85, 0x21], [0xFD, 0xCB, 0x85, 0x22], [0xFD, 0xCB, 0x85, 0x23],
      [0xFD, 0xCB, 0x85, 0x24], [0xFD, 0xCB, 0x85, 0x25], [0xFD, 0xCB, 0x85, 0x26],
      [0xFD, 0xCB, 0x85, 0x27], [0xFD, 0xCB, 0x85, 0x28], [0xFD, 0xCB, 0x85, 0x29],
      [0xFD, 0xCB, 0x85, 0x2A], [0xFD, 0xCB, 0x85, 0x2B], [0xFD, 0xCB, 0x85, 0x2C],
      [0xFD, 0xCB, 0x85, 0x2D], [0xFD, 0xCB, 0x85, 0x2E], [0xFD, 0xCB, 0x85, 0x2F]] : List (List Byte)).map decode =
      [
        .ok (.ld_E_mIYd 0x85, []), .ok (.ld_IYH_B, []), .ok (.ld_IYH_C, []), .ok (.ld_IYH_D, []),
        .ok (.ld_IYH_E, []), .ok (.ld_IYH_IYH, []), .ok (.ld_IYH_IYL, []),
        .ok (.ld_H_mIYd 0x85, []), .ok (.ld_IYH_A, []), .ok (.ld_IYL_B, []), .ok (.ld_IYL_C, []),
        .ok (.ld_IYL_D, []), .ok (.ld_IYL_E, []), .ok (.ld_IYL_IYH, []), .ok (.ld_IYL_IYL, []),
        .ok (.ld_L_mIYd 0x85, []), .ok (.ld_IYL_A, []), .ok (.ld_mIYd_B 0x85, []),
        .ok (.ld_mIYd_C 0x85, []), .ok (.ld_mIYd_D 0x85, []), .ok (.ld_mIYd_E 0x85, []),
        .ok (.ld_mIYd_H 0x85, []), .ok (.ld_mIYd_L 0x85, []), .ok (.ld_mIYd_A 0x85, []),
        .ok (.ld_A_IYH, []), .ok (.ld_A_IYL, []), .ok (.ld_A_mIYd 0x85, []),
        .ok (.add_A_IYH, []), .ok (.add_A_IYL, []), .ok (.add_A_mIYd 0x85, []),
        .ok (.adc_A_IYH, []), .ok (.adc_A_IYL, []), .ok (.adc_A_mIYd 0x85, []),
        .ok (.sub_IYH, []), .ok (.sub_IYL, []), .ok (.sub_mIYd 0x85, []), .ok (.sbc_A_IYH, []),
        .ok (.sbc_A_IYL, []), .ok (.sbc_A_mIYd 0x85, []), .ok (.and_IYH, []), .ok (.and_IYL, []),
        .ok (.and_mIYd 0x85, []), .ok (.xor_IYH, []), .ok (.xor_IYL, []),
        .ok (.xor_mIYd 0x85, []), .ok (.or_IYH, []), .ok (.or_IYL, []), .ok (.or_mIYd 0x85, []),
        .ok (.cp_IYH, []), .ok (.cp_IYL, []), .ok (.cp_mIYd 0x85, []), .ok (.pop_IY, []),
        .ok (.ex_mSP_IY, []), .ok (.push_IY, []), .ok (.jp_mIY, []), .ok (.ld_SP_IY, []),
        .ok (.rlc_mIYd_B 0x85, []), .ok (.rlc_mIYd_C 0x85, []), .ok (.rlc_mIYd_D 0x85, []),
        .ok (.rlc_mIYd_E 0x85, []), .ok (.rlc_mIYd_H 0x85, []), .ok (.rlc_mIYd_L 0x85, []),
        .ok (.rlc_mIYd 0x85, []), .ok (.rlc_mIYd_A 0x85, []), .ok (.rrc_mIYd_B 0x85, []),
        .ok (.rrc_mIYd_C 0x85, []), .ok (.rrc_mIYd_D 0x85, []), .ok (.rrc_mIYd_E 0x85, []),
        .ok (.rrc_mIYd_H 0x85, []), .ok (.rrc_mIYd_L 0x85, []), .ok (.rrc_mIYd 0x85, []),
        .ok (.rrc_mIYd_A 0x85, []), .ok (.rl_mIYd_B 0x85, []), .ok (.rl_mIYd_C 0x85, []),
        .ok (.rl_mIYd_D 0x85, []), .ok (.rl_mIYd_E 0x85, []), .ok (.rl_mIYd_H 0x85, []),
        .ok (.rl_mIYd_L 0x85, []), .ok (.rl_mIYd 0x85, []), .ok (.rl_mIYd_A 0x85, []),
        .ok (.rr_mIYd_B 0x85, []), .ok (.rr_mIYd_C 0x85, []), .ok (.rr_mIYd_D 0x85, []),
        .ok (.rr_mIYd_E 0x85, []), .ok (.rr_mIYd_H 0x85, []), .ok (.rr_mIYd_L 0x85, []),
        .ok (.rr_mIYd 0x85, []), .ok (.rr_mIYd_A 0x85, []), .ok (.sla_mIYd_B 0x85, []),
        .ok (.sla_mIYd_C 0x85, []), .ok (.sla_mIYd_D 0x85, []), .ok (.sla_mIYd_E 0x85, []),
        .ok (.sla_mIYd_H 0x85, []), .ok (.sla_mIYd_L 0x85, []), .ok (.sla_mIYd 0x85, []),
        .ok (.sla_mIYd_A 0x85, []), .ok (.sra_mIYd_B 0x85, []), .ok (.sra_mIYd_C 0x85, []),
        .ok (.sra_mIYd_D 0x85, []), .ok (.sra_mIYd_E 0x85, []), .ok (.sra_mIYd_H 0x85, []),
        .ok (.sra_mIYd_L 0x85, []), .ok (.sra_mIYd 0x85, []), .ok (.sra_mIYd_A 0x85, [])] :=
  rfl

theorem test_decode_rows_1040 :
    ([
      [0xFD, 0xCB, 0x85, 0x30], [0xFD, 0xCB, 0x85, 0x31], [0xFD, 0xCB, 0x85, 0x32],
      [0xFD, 0xCB, 0x85, 0x33], [0xFD, 0xCB, 0x85, 0x34], [0xFD, 0xCB, 0x85, 0x35],
      [0xFD, 0xCB, 0x85, 0x36], [0xFD, 0xCB, 0x85, 0x37], [0xFD, 0xCB, 0x85, 0x38],
      [0xFD, 0xCB, 0x85, 0x39], [0xFD, 0xCB, 0x85, 0x3A], [0xFD, 0xCB, 0x85, 0x3B],
      [0xFD, 0xCB, 0x85, 0x3C], [0xFD, 0xCB, 0x85, 0x3D], [0xFD, 0xCB, 0x85, 0x3E],
      [0xFD, 0xCB, 0x85, 0x3F], [0xFD, 0xCB, 0x85, 0x40], [0xFD, 0xCB, 0x85, 0x41],
      [0xFD, 0xCB, 0x85, 0x42], [0xFD, 0xCB, 0x85, 0x43], [0xFD, 0xCB, 0x85, 0x44],
      [0xFD, 0xCB, 0x85, 0x45], [0xFD, 0xCB, 0x85, 0x46], [0xFD, 0xCB, 0x85, 0x47],
      [0xFD, 0xCB, 0x85, 0x48], [0xFD, 0xCB, 0x85, 0x49], [0xFD, 0xCB, 0x85, 0x4A],
      [0xFD, 0xCB, 0x85, 0x4B], [0xFD, 0xCB, 0x85, 0x4C], [0xFD, 0xCB, 0x85, 0x4D],
      [0xFD, 0xCB, 0x85, 0x4E], [0xFD, 0xCB, 0x85, 0x4F], [0xFD, 0xCB, 0x85, 0x50],
      [0xFD, 0xCB, 0x85, 0x51], [0xFD, 0xCB, 0x85, 0x52], [0xFD, 0xCB, 0x85, 0x53],
      [0xFD, 0xCB, 0x85, 0x54], [0xFD, 0xCB, 0x85, 0x55], [0xFD, 0xCB, 0x85, 0x56],
      [0xFD, 0xCB, 0x85, 0x57], [0xFD, 0xCB, 0x85, 0x58], [0xFD, 0xCB, 0x85, 0x59],
      [0xFD, 0xCB, 0x85, 0x5A], [0xFD, 0xCB, 0x85, 0x5B], [0xFD, 0xCB, 0x85, 0x5C],
      [0xFD, 0xCB, 0x85, 0x5D], [0xFD, 0xCB, 0x85, 0x5E], [0xFD, 0xCB, 0x85, 0x5F],
      [0xFD, 0xCB, 0x85, 0x60], [0xFD, 0xCB, 0x85, 0x61], [0xFD, 0xCB, 0x85, 0x62],
      [0xFD, 0xCB, 0x85, 0x63], [0xFD, 0xCB, 0x85, 0x64], [0xFD, 0xCB, 0x85, 0x65],
      [0xFD, 0xCB, 0x85, 0x66], [0xFD, 0xCB, 0x85, 0x67], [0xFD, 0xCB, 0x85, 0x68],
      [0xFD, 0xCB, 0x85, 0x69], [0xFD, 0xCB, 0x85, 0x6A], [0xFD, 0xCB, 0x85, 0x6B],
      [0xFD, 0xCB, 0x85, 0x6C], [0xFD, 0xCB, 0x85, 0x6D], [0xFD, 0xCB, 0x85, 0x6E],
      [0xFD, 0xCB, 0x85, 0x6F], [0xFD, 0xCB, 0x85, 0x70], [0xFD, 0xCB, 0x85, 0x71],
      [0xFD, 0xCB, 0x85, 0x72], [0xFD, 0xCB, 0x85, 0x73], [0xFD, 0xCB, 0x85, 0x74],
      [0xFD, 0xCB, 0x85, 0x75], [0xFD, 0xCB, 0x85, 0x76], [0xFD, 0xCB, 0x85, 0x77],
      [0xFD, 0xCB, 0x85, 0x78], [0xFD, 0xCB, 0x85, 0x79], [0xFD, 0xCB, 0x85, 0x7A],
      [0xFD, 0xCB, 0x85, 0x7B], [0xFD, 0xCB, 0x85, 0x7C], [0xFD, 0xCB, 0x85, 0x7D],
      [0xFD, 0xCB, 0x85, 0x7E], [0xFD, 0xCB, 0x85, 0x7F], [0xFD, 0xCB, 0x85, 0x80],
      [0xFD, 0xCB, 0x85, 0x81], [0xFD, 0xCB, 0x85, 0x82], [0xFD, 0xCB, 0x85, 0x83],
      [0xFD, 0xCB, 0x85, 0x84], [0xFD, 0xCB, 0x85, 0x85], [0xFD, 0xCB, 0x85, 0x86],
      [0xFD, 0xCB, 0x85, 0x87], [0xFD, 0xCB, 0x85, 0x88], [0xFD, 0xCB, 0x85, 0x89],
      [0xFD, 0xCB, 0x85, 0x8A], [0xFD, 0xCB, 0x85, 0x8B], [0xFD, 0xCB, 0x85, 0x8C],
      [0xFD, 0xCB, 0x85, 0x8D], [0xFD, 0xCB, 0x85, 0x8E], [0xFD, 0xCB, 0x85, 0x8F],
      [0xFD, 0xCB, 0x85, 0x90], [0xFD, 0xCB, 0x85, 0x91], [0xFD, 0xCB, 0x85, 0x92],
      [0xFD, 0xCB, 0x85, 0x93], [0xFD, 0xCB, 0x85, 0x94], [0xFD, 0xCB, 0x85, 0x95],
      [0xFD, 0xCB, 0x85, 0x96], [0xFD, 0xCB, 0x85, 0x97]] : List (List Byte)).map decode =
      [
        .ok (.sll_mIYd_B 0x85, []), .ok (.sll_mIYd_C 0x85, []), .ok (.sll_mIYd_D 0x85, []),
        .ok (.sll_mIYd_E 0x85, []), .ok (.sll_mIYd_H 0x85, []), .ok (.sll_mIYd_L 0x85, []),
        .ok (.sll_mIYd 0x85, []), .ok (.sll_mIYd_A 0x85, []), .ok (.srl_mIYd_B 0x85, []),
        .ok (.srl_mIYd_C 0x85, []), .ok (.srl_mIYd_D 0x85, []), .ok (.srl_mIYd_E 0x85, []),
        .ok (.srl_mIYd_H 0x85, []), .ok (.srl_mIYd_L 0x85, []), .ok (.srl_mIYd 0x85, []),
        .ok (.srl_mIYd_A 0x85, []), .ok (.bit_0_mIYd_z0 0x85, []), .ok (.bit_0_mIYd_z1 0x85, []),
        .ok (.bit_0_mIYd_z2 0x85, []), .ok (.bit_0_mIYd_z3 0x85, []),
        .ok (.bit_0_mIYd_z4 0x85, []), .ok (.bit_0_mIYd_z5 0x85, []),
        .ok (.bit_0_mIYd_z6 0x85, []), .ok (.bit_0_mIYd_z7 0x85, []),
        .ok (.bit_1_mIYd_z0 0x85, []), .ok (.bit_1_mIYd_z1 0x85, []),
        .ok (.bit_1_mIYd_z2 0x85, []), .ok (.bit_1_mIYd_z3 0x85, []),
        .ok (.bit_1_mIYd_z4 0x85, []), .ok (.bit_1_mIYd_z5 0x85, []),
        .ok (.bit_1_mIYd_z6 0x85, []), .ok (.bit_1_mIYd_z7 0x85, []),
        .ok (.bit_2_mIYd_z0 0x85, []), .ok (.bit_2_mIYd_z1 0x85, []),
        .ok (.bit_2_mIYd_z2 0x85, []), .ok (.bit_2_mIYd_z3 0x85, []),
        .ok (.bit_2_mIYd_z4 0x85, []), .ok (.bit_2_mIYd_z5 0x85, []),
        .ok (.bit_2_mIYd_z6 0x85, []), .ok (.bit_2_mIYd_z7 0x85, []),
        .ok (.bit_3_mIYd_z0 0x85, []), .ok (.bit_3_mIYd_z1 0x85, []),
        .ok (.bit_3_mIYd_z2 0x85, []), .ok (.bit_3_mIYd_z3 0x85, []),
        .ok (.bit_3_mIYd_z4 0x85, []), .ok (.bit_3_mIYd_z5 0x85, []),
        .ok (.bit_3_mIYd_z6 0x85, []), .ok (.bit_3_mIYd_z7 0x85, []),
        .ok (.bit_4_mIYd_z0 0x85, []), .ok (.bit_4_mIYd_z1 0x85, []),
        .ok (.bit_4_mIYd_z2 0x85, []), .ok (.bit_4_mIYd_z3 0x85, []),
        .ok (.bit_4_mIYd_z4 0x85, []), .ok (.bit_4_mIYd_z5 0x85, []),
        .ok (.bit_4_mIYd_z6 0x85, []), .ok (.bit_4_mIYd_z7 0x85, []),
        .ok (.bit_5_mIYd_z0 0x85, []), .ok (.bit_5_mIYd_z1 0x85, []),
        .ok (.bit_5_mIYd_z2 0x85, []), .ok (.bit_5_mIYd_z3 0x85, []),
        .ok (.bit_5_mIYd_z4 0x85, []), .ok (.bit_5_mIYd_z5 0x85, []),
        .ok (.bit_5_mIYd_z6 0x85, []), .ok (.bit_5_mIYd_z7 0x85, []),
        .ok (.bit_6_mIYd_z0 0x85, []), .ok (.bit_6_mIYd_z1 0x85, []),
        .ok (.bit_6_mIYd_z2 0x85, []), .ok (.bit_6_mIYd_z3 0x85, []),
        .ok (.bit_6_mIYd_z4 0x85, []), .ok (.bit_6_mIYd_z5 0x85, []),
        .ok (.bit_6_mIYd_z6 0x85, []), .ok (.bit_6_mIYd_z7 0x85, []),
        .ok (.bit_7_mIYd_z0 0x85, []), .ok (.bit_7_mIYd_z1 0x85, []),
        .ok (.bit_7_mIYd_z2 0x85, []), .ok (.bit_7_mIYd_z3 0x85, []),
        .ok (.bit_7_mIYd_z4 0x85, []), .ok (.bit_7_mIYd_z5 0x85, []),
        .ok (.bit_7_mIYd_z6 0x85, []), .ok (.bit_7_mIYd_z7 0x85, []),
        .ok (.res_0_mIYd_B 0x85, []), .ok (.res_0_mIYd_C 0x85, []), .ok (.res_0_mIYd_D 0x85, []),
        .ok (.res_0_mIYd_E 0x85, []), .ok (.res_0_mIYd_H 0x85, []), .ok (.res_0_mIYd_L 0x85, []),
        .ok (.res_0_mIYd 0x85, []), .ok (.res_0_mIYd_A 0x85, []), .ok (.res_1_mIYd_B 0x85, []),
        .ok (.res_1_mIYd_C 0x85, []), .ok (.res_1_mIYd_D 0x85, []), .ok (.res_1_mIYd_E 0x85, []),
        .ok (.res_1_mIYd_H 0x85, []), .ok (.res_1_mIYd_L 0x85, []), .ok (.res_1_mIYd 0x85, []),
        .ok (.res_1_mIYd_A 0x85, []), .ok (.res_2_mIYd_B 0x85, []), .ok (.res_2_mIYd_C 0x85, []),
        .ok (.res_2_mIYd_D 0x85, []), .ok (.res_2_mIYd_E 0x85, []), .ok (.res_2_mIYd_H 0x85, []),
        .ok (.res_2_mIYd_L 0x85, []), .ok (.res_2_mIYd 0x85, []), .ok (.res_2_mIYd_A 0x85, [])] :=
  rfl

theorem test_decode_rows_1144 :
    ([
      [0xFD, 0xCB, 0x85, 0x98], [0xFD, 0xCB, 0x85, 0x99], [0xFD, 0xCB, 0x85, 0x9A],
      [0xFD, 0xCB, 0x85, 0x9B], [0xFD, 0xCB, 0x85, 0x9C], [0xFD, 0xCB, 0x85, 0x9D],
      [0xFD, 0xCB, 0x85, 0x9E], [0xFD, 0xCB, 0x85, 0x9F], [0xFD, 0xCB, 0x85, 0xA0],
      [0xFD, 0xCB, 0x85, 0xA1], [0xFD, 0xCB, 0x85, 0xA2], [0xFD, 0xCB, 0x85, 0xA3],
      [0xFD, 0xCB, 0x85, 0xA4], [0xFD, 0xCB, 0x85, 0xA5], [0xFD, 0xCB, 0x85, 0xA6],
      [0xFD, 0xCB, 0x85, 0xA7], [0xFD, 0xCB, 0x85, 0xA8], [0xFD, 0xCB, 0x85, 0xA9],
      [0xFD, 0xCB, 0x85, 0xAA], [0xFD, 0xCB, 0x85, 0xAB], [0xFD, 0xCB, 0x85, 0xAC],
      [0xFD, 0xCB, 0x85, 0xAD], [0xFD, 0xCB, 0x85, 0xAE], [0xFD, 0xCB, 0x85, 0xAF],
      [0xFD, 0xCB, 0x85, 0xB0], [0xFD, 0xCB, 0x85, 0xB1], [0xFD, 0xCB, 0x85, 0xB2],
      [0xFD, 0xCB, 0x85, 0xB3], [0xFD, 0xCB, 0x85, 0xB4], [0xFD, 0xCB, 0x85, 0xB5],
      [0xFD, 0xCB, 0x85, 0xB6], [0xFD, 0xCB, 0x85, 0xB7], [0xFD, 0xCB, 0x85, 0xB8],
      [0xFD, 0xCB, 0x85, 0xB9], [0xFD, 0xCB, 0x85, 0xBA], [0xFD, 0xCB, 0x85, 0xBB],
      [0xFD, 0xCB, 0x85, 0xBC], [0xFD, 0xCB, 0x85, 0xBD], [0xFD, 0xCB, 0x85, 0xBE],
      [0xFD, 0xCB, 0x85, 0xBF], [0xFD, 0xCB, 0x85, 0xC0], [0xFD, 0xCB, 0x85, 0xC1],
      [0xFD, 0xCB, 0x85, 0xC2], [0xFD, 0xCB, 0x85, 0xC3], [0xFD, 0xCB, 0x85, 0xC4],
      [0xFD, 0xCB, 0x85, 0xC5], [0xFD, 0xCB, 0x85, 0xC6], [0xFD, 0xCB, 0x85, 0xC7],
      [0xFD, 0xCB, 0x85, 0xC8], [0xFD, 0xCB, 0x85, 0xC9], [0xFD, 0xCB, 0x85, 0xCA],
      [0xFD, 0xCB, 0x85, 0xCB], [0xFD, 0xCB, 0x85, 0xCC], [0xFD, 0xCB, 0x85, 0xCD],
      [0xFD, 0xCB, 0x85, 0xCE], [0xFD, 0xCB, 0x85, 0xCF], [0xFD, 0xCB, 0x85, 0xD0],
      [0xFD, 0xCB, 0x85, 0xD1], [0xFD, 0xCB, 0x85, 0xD2], [0xFD, 0xCB, 0x85, 0xD3],
      [0xFD, 0xCB, 0x85, 0xD4], [0xFD, 0xCB, 0x85, 0xD5], [0xFD, 0xCB, 0x85, 0xD6],
      [0xFD, 0xCB, 0x85, 0xD7], [0xFD, 0xCB, 0x85, 0xD8], [0xFD, 0xCB, 0x85, 0xD9],
      [0xFD, 0xCB, 0x85, 0xDA], [0xFD, 0xCB, 0x85, 0xDB], [0xFD, 0xCB, 0x85, 0xDC],
      [0xFD, 0xCB, 0x85, 0xDD], [0xFD, 0xCB, 0x85, 0xDE], [0xFD, 0xCB, 0x85, 0xDF],
      [0xFD, 0xCB, 0x85, 0xE0], [0xFD, 0xCB, 0x85, 0xE1], [0xFD, 0xCB, 0x85, 0xE2],
      [0xFD, 0xCB, 0x85, 0xE3], [0xFD, 0xCB, 0x85, 0xE4], [0xFD, 0xCB, 0x85, 0xE5],
      [0xFD, 0xCB, 0x85, 0xE6], [0xFD, 0xCB, 0x85, 0xE7], [0xFD, 0xCB, 0x85, 0xE8],
      [0xFD, 0xCB, 0x85, 0xE9], [0xFD, 0xCB, 0x85, 0xEA], [0xFD, 0xCB, 0x85, 0xEB],
      [0xFD, 0xCB, 0x85, 0xEC], [0xFD, 0xCB, 0x85, 0xED], [0xFD, 0xCB, 0x85, 0xEE],
      [0xFD, 0xCB, 0x85, 0xEF], [0xFD, 0xCB, 0x85, 0xF0], [0xFD, 0xCB, 0x85, 0xF1],
      [0xFD, 0xCB, 0x85, 0xF2], [0xFD, 0xCB, 0x85, 0xF3], [0xFD, 0xCB, 0x85, 0xF4],
      [0xFD, 0xCB, 0x85, 0xF5], [0xFD, 0xCB, 0x85, 0xF6], [0xFD, 0xCB, 0x85, 0xF7],
      [0xFD, 0xCB, 0x85, 0xF8], [0xFD, 0xCB, 0x85, 0xF9], [0xFD, 0xCB, 0x85, 0xFA],
      [0xFD, 0xCB, 0x85, 0xFB], [0xFD, 0xCB, 0x85, 0xFC], [0xFD, 0xCB, 0x85, 0xFD],
      [0xFD, 0xCB, 0x85, 0xFE], [0xFD, 0xCB, 0x85, 0xFF]] : List (List Byte)).map decode =
      [
        .ok (.res_3_mIYd_B 0x85, []), .ok (.res_3_mIYd_C 0x85, []), .ok (.res_3_mIYd_D 0x85, []),
        .ok (.res_3_mIYd_E 0x85, []), .ok (.res_3_mIYd_H 0x85, []), .ok (.res_3_mIYd_L 0x85, []),
        .ok (.res_3_mIYd 0x85, []), .ok (.res_3_mIYd_A 0x85, []), .ok (.res_4_mIYd_B 0x85, []),
        .ok (.res_4_mIYd_C 0x85, []), .ok (.res_4_mIYd_D 0x85, []), .ok (.res_4_mIYd_E 0x85, []),
        .ok (.res_4_mIYd_H 0x85, []), .ok (.res_4_mIYd_L 0x85, []), .ok (.res_4_mIYd 0x85, []),
        .ok (.res_4_mIYd_A 0x85, []), .ok (.res_5_mIYd_B 0x85, []), .ok (.res_5_mIYd_C 0x85, []),
        .ok (.res_5_mIYd_D 0x85, []), .ok (.res_5_mIYd_E 0x85, []), .ok (.res_5_mIYd_H 0x85, []),
        .ok (.res_5_mIYd_L 0x85, []), .ok (.res_5_mIYd 0x85, []), .ok (.res_5_mIYd_A 0x85, []),
        .ok (.res_6_mIYd_B 0x85, []), .ok (.res_6_mIYd_C 0x85, []), .ok (.res_6_mIYd_D 0x85, []),
        .ok (.res_6_mIYd_E 0x85, []), .ok (.res_6_mIYd_H 0x85, []), .ok (.res_6_mIYd_L 0x85, []),
        .ok (.res_6_mIYd 0x85, []), .ok (.res_6_mIYd_A 0x85, []), .ok (.res_7_mIYd_B 0x85, []),
        .ok (.res_7_mIYd_C 0x85, []), .ok (.res_7_mIYd_D 0x85, []), .ok (.res_7_mIYd_E 0x85, []),
        .ok (.res_7_mIYd_H 0x85, []), .ok (.res_7_mIYd_L 0x85, []), .ok (.res_7_mIYd 0x85, []),
        .ok (.res_7_mIYd_A 0x85, []), .ok (.set_0_mIYd_B 0x85, []), .ok (.set_0_mIYd_C 0x85, []),
        .ok (.set_0_mIYd_D 0x85, []), .ok (.set_0_mIYd_E 0x85, []), .ok (.set_0_mIYd_H 0x85, []),
        .ok (.set_0_mIYd_L 0x85, []), .ok (.set_0_mIYd 0x85, []), .ok (.set_0_mIYd_A 0x85, []),
        .ok (.set_1_mIYd_B 0x85, []), .ok (.set_1_mIYd_C 0x85, []), .ok (.set_1_mIYd_D 0x85, []),
        .ok (.set_1_mIYd_E 0x85, []), .ok (.set_1_mIYd_H 0x85, []), .ok (.set_1_mIYd_L 0x85, []),
        .ok (.set_1_mIYd 0x85, []), .ok (.set_1_mIYd_A 0x85, []), .ok (.set_2_mIYd_B 0x85, []),
        .ok (.set_2_mIYd_C 0x85, []), .ok (.set_2_mIYd_D 0x85, []), .ok (.set_2_mIYd_E 0x85, []),
        .ok (.set_2_mIYd_H 0x85, []), .ok (.set_2_mIYd_L 0x85, []), .ok (.set_2_mIYd 0x85, []),
        .ok (.set_2_mIYd_A 0x85, []), .ok (.set_3_mIYd_B 0x85, []), .ok (.set_3_mIYd_C 0x85, []),
        .ok (.set_3_mIYd_D 0x85, []), .ok (.set_3_mIYd_E 0x85, []), .ok (.set_3_mIYd_H 0x85, []),
        .ok (.set_3_mIYd_L 0x85, []), .ok (.set_3_mIYd 0x85, []), .ok (.set_3_mIYd_A 0x85, []),
        .ok (.set_4_mIYd_B 0x85, []), .ok (.set_4_mIYd_C 0x85, []), .ok (.set_4_mIYd_D 0x85, []),
        .ok (.set_4_mIYd_E 0x85, []), .ok (.set_4_mIYd_H 0x85, []), .ok (.set_4_mIYd_L 0x85, []),
        .ok (.set_4_mIYd 0x85, []), .ok (.set_4_mIYd_A 0x85, []), .ok (.set_5_mIYd_B 0x85, []),
        .ok (.set_5_mIYd_C 0x85, []), .ok (.set_5_mIYd_D 0x85, []), .ok (.set_5_mIYd_E 0x85, []),
        .ok (.set_5_mIYd_H 0x85, []), .ok (.set_5_mIYd_L 0x85, []), .ok (.set_5_mIYd 0x85, []),
        .ok (.set_5_mIYd_A 0x85, []), .ok (.set_6_mIYd_B 0x85, []), .ok (.set_6_mIYd_C 0x85, []),
        .ok (.set_6_mIYd_D 0x85, []), .ok (.set_6_mIYd_E 0x85, []), .ok (.set_6_mIYd_H 0x85, []),
        .ok (.set_6_mIYd_L 0x85, []), .ok (.set_6_mIYd 0x85, []), .ok (.set_6_mIYd_A 0x85, []),
        .ok (.set_7_mIYd_B 0x85, []), .ok (.set_7_mIYd_C 0x85, []), .ok (.set_7_mIYd_D 0x85, []),
        .ok (.set_7_mIYd_E 0x85, []), .ok (.set_7_mIYd_H 0x85, []), .ok (.set_7_mIYd_L 0x85, []),
        .ok (.set_7_mIYd 0x85, []), .ok (.set_7_mIYd_A 0x85, [])] :=
  rfl

/-! ## Table words and where step fetches -/

/-- Row `DD 36 d n`, byte 1 most significant as the table numbers its match words (R137). -/
theorem test_table_word_high_first : decodeTableWord 32 0xDD360000 = some (.ld_mIXd_n 0x00 0x00) := rfl

/-- The same row with byte 1 least significant. -/
theorem test_table_word_low_first : decodeTableWord 32 0x000036DD = some (.ld_mIXd_n 0x00 0x00) := rfl

theorem test_table_word_short : decodeTableWord 8 0x21 = some (.ld_HL_nn 0x0000) := rfl

theorem test_with_fetch_word_halt :
    (match step (State.reset.withFetchWord 8 0x76) with
     | .next t => (t.halted, t.pc, t.cycles)
     | _ => (false, 0, 0)) = (true, 0x0001, 4) := by
  decide +kernel

theorem test_with_fetch_word_prefixed :
    (match step (State.reset.withFetchWord 16 0xED5E) with
     | .next t => (t.im, t.pc, t.r)
     | _ => (.im0, 0, 0)) = (.im2, 0x0002, 0x02) := by
  decide +kernel

/-- The one run from reset (R7, R83): every page is unmapped, so 0xFF is fetched, RST 38H. -/
theorem test_first_step_after_reset :
    (match step State.reset with
     | .next t => (t.pc, t.sp, t.cycles)
     | _ => (0, 0, 0)) = (0x0038, 0xFFFE, 11) := by
  decide +kernel

/-! ## The vectors of 95_test_vectors.md, one instruction each -/

/-! ### V30: the decoder -/

/-- V30.1, invalid ED 00. -/
theorem test_v30_1 :
    after [0xED, 0x00] []
      launch
      (fun t => (t.pc, t.r, t.inv, t.cycles)) =
    some (0x0100, 0x02, true, 4) := by
  decide +kernel

/-- V30.2, invalid DD 00. -/
theorem test_v30_2 :
    after [0xDD, 0x00] []
      launch
      (fun t => (t.pc, t.r, t.inv, t.cycles)) =
    some (0x0100, 0x02, true, 4) := by
  decide +kernel

/-- V30.6, DD 87: o2 not in XY_VALID is invalid, not ADD A,A. -/
theorem test_v30_6 :
    after [0xDD, 0x87] []
      { launch with af := 0x0100 }
      (fun t => (t.pc, t.r, t.inv, t.cycles)) =
    some (0x0100, 0x02, true, 4) := by
  decide +kernel

/-- V30.10, SET 0,(IX+3): DD CB d op, d before op, R + 2 only. -/
theorem test_v30_10 :
    after [0xDD, 0xCB, 0x03, 0xC6] []
      { launch with ix := 0x2000 }
      (fun t => (t.wz, t.pc, t.r, t.read8 0x2003, t.cycles)) =
    some (0x2003, 0x0104, 0x02, 0x01, 23) := by
  decide +kernel


/-! ### V40: 8-bit loads -/

/-- V40.1, LD B,C. -/
theorem test_v40_1 :
    after [0x41] []
      { launch with bc := 0x005A }
      (fun t => (t.bc, t.pc, t.r, t.cycles)) =
    some (0x5A5A, 0x0101, 0x01, 4) := by
  decide +kernel

/-- V40.2, LD A,0x80. -/
theorem test_v40_2 :
    after [0x3E, 0x80] []
      launch
      (fun t => (t.af, t.pc, t.r, t.cycles)) =
    some (0x8000, 0x0102, 0x01, 7) := by
  decide +kernel

/-- V40.3, LD E,(HL). -/
theorem test_v40_3 :
    after [0x5E] [(0x2000, 0x99)]
      { launch with hl := 0x2000 }
      (fun t => (t.de, t.pc, t.r, t.cycles)) =
    some (0x0099, 0x0101, 0x01, 7) := by
  decide +kernel

/-- V40.4, LD (HL),H. -/
theorem test_v40_4 :
    after [0x74] []
      { launch with hl := 0x2000 }
      (fun t => (t.pc, t.r, t.read8 0x2000, t.cycles)) =
    some (0x0101, 0x01, 0x20, 7) := by
  decide +kernel

/-- V40.5, LD A,(IX-1) (d = 0xFF). -/
theorem test_v40_5 :
    after [0xDD, 0x7E, 0xFF] [(0x1FFF, 0x42)]
      { launch with ix := 0x2000 }
      (fun t => (t.af, t.wz, t.pc, t.r, t.cycles)) =
    some (0x4200, 0x1FFF, 0x0103, 0x02, 19) := by
  decide +kernel

/-- V40.6, LD (IY+127),0x33. -/
theorem test_v40_6 :
    after [0xFD, 0x36, 0x7F, 0x33] []
      { launch with iy := 0x2000 }
      (fun t => (t.wz, t.pc, t.r, t.read8 0x207F, t.cycles)) =
    some (0x207F, 0x0104, 0x02, 0x33, 19) := by
  decide +kernel

/-- V40.7, LD A,(BC). -/
theorem test_v40_7 :
    after [0x0A] [(0x3000, 0x11)]
      { launch with bc := 0x3000 }
      (fun t => (t.af, t.wz, t.pc, t.r, t.cycles)) =
    some (0x1100, 0x3001, 0x0101, 0x01, 7) := by
  decide +kernel

/-- V40.8, LD (0x4000),A. -/
theorem test_v40_8 :
    after [0x32, 0x00, 0x40] []
      { launch with af := 0xAB00 }
      (fun t => (t.wz, t.pc, t.r, t.read8 0x4000, t.cycles)) =
    some (0xAB01, 0x0103, 0x01, 0xAB, 13) := by
  decide +kernel

/-- V40.9, LD A,I with IFF2 = 1. -/
theorem test_v40_9 :
    after [0xED, 0x57] []
      { launch with i := 0x80, iff1 := true, iff2 := true, af := 0x0001 }
      (fun t => (t.af, t.pc, t.r, t.cycles)) =
    some (0x8085, 0x0102, 0x02, 9) := by
  decide +kernel

/-- V40.10, LD A,I with I = 0, IFF2 = 0. -/
theorem test_v40_10 :
    after [0xED, 0x57] []
      { launch with i := 0x00, af := 0x5500 }
      (fun t => (t.af, t.pc, t.r, t.cycles)) =
    some (0x0040, 0x0102, 0x02, 9) := by
  decide +kernel

/-- V40.11, LD A,R (R counts the 2 fetches first). -/
theorem test_v40_11 :
    after [0xED, 0x5F] []
      { launch with r := 0x7E }
      (fun t => (t.af, t.pc, t.r, t.cycles)) =
    some (0x0040, 0x0102, 0x00, 9) := by
  decide +kernel

/-- V40.12, LD R,A (bit 7 written). -/
theorem test_v40_12 :
    after [0xED, 0x4F] []
      { launch with af := 0x8000 }
      (fun t => (t.pc, t.r, t.cycles)) =
    some (0x0102, 0x80, 9) := by
  decide +kernel

/-- V40.13, LD IXH,0x12 (undocumented). -/
theorem test_v40_13 :
    after [0xDD, 0x26, 0x12] []
      { launch with ix := 0x3456 }
      (fun t => (t.ix, t.pc, t.r, t.cycles)) =
    some (0x1256, 0x0103, 0x02, 11) := by
  decide +kernel

/-- V40.14, LD H,(IX+1): H, not IXH. -/
theorem test_v40_14 :
    after [0xDD, 0x66, 0x01] [(0x2001, 0x77)]
      { launch with ix := 0x2000 }
      (fun t => (t.hl, t.wz, t.pc, t.r, t.cycles)) =
    some (0x7700, 0x2001, 0x0103, 0x02, 19) := by
  decide +kernel

/-- V40.15, LD IXL,IXH. -/
theorem test_v40_15 :
    after [0xDD, 0x6C] []
      { launch with ix := 0xAB00 }
      (fun t => (t.ix, t.pc, t.r, t.cycles)) =
    some (0xABAB, 0x0102, 0x02, 8) := by
  decide +kernel


/-! ### V41: 16-bit loads, push and pop -/

/-- V41.1, LD BC,0x1234. -/
theorem test_v41_1 :
    after [0x01, 0x34, 0x12] []
      launch
      (fun t => (t.bc, t.pc, t.r, t.cycles)) =
    some (0x1234, 0x0103, 0x01, 10) := by
  decide +kernel

/-- V41.2, LD HL,(0xFFFF): high byte wraps to 0x0000. -/
theorem test_v41_2 :
    after [0x2A, 0xFF, 0xFF] [(0xFFFF, 0xCD), (0x0000, 0xAB)]
      launch
      (fun t => (t.hl, t.pc, t.r, t.cycles)) =
    some (0xABCD, 0x0103, 0x01, 16) := by
  decide +kernel

/-- V41.3, LD (0x5000),SP. -/
theorem test_v41_3 :
    after [0xED, 0x73, 0x00, 0x50] []
      { launch with sp := 0xBEEF }
      (fun t => ((t.wz, t.pc, t.r), (t.read8 0x5000, t.read8 0x5001, t.cycles))) =
    some ((0x5001, 0x0104, 0x02), (0xEF, 0xBE, 20)) := by
  decide +kernel

/-- V41.4, LD IX,(0x5000). -/
theorem test_v41_4 :
    after [0xDD, 0x2A, 0x00, 0x50] [(0x5000, 0x11), (0x5001, 0x22)]
      launch
      (fun t => (t.ix, t.wz, t.pc, t.r, t.cycles)) =
    some (0x2211, 0x5001, 0x0104, 0x02, 20) := by
  decide +kernel

/-- V41.5, PUSH AF. -/
theorem test_v41_5 :
    after [0xF5] []
      { launch with af := 0x12D7 }
      (fun t => ((t.sp, t.pc, t.r), (t.read8 0xFFEE, t.read8 0xFFEF, t.cycles))) =
    some ((0xFFEE, 0x0101, 0x01), (0xD7, 0x12, 11)) := by
  decide +kernel

/-- V41.6, POP AF (F gets all 8 bits). -/
theorem test_v41_6 :
    after [0xF1] [(0x3000, 0xFF), (0x3001, 0x00)]
      { launch with sp := 0x3000 }
      (fun t => (t.af, t.sp, t.pc, t.r, t.cycles)) =
    some (0x00FF, 0x3002, 0x0101, 0x01, 10) := by
  decide +kernel

/-- V41.7, POP BC at SP = 0xFFFF (wrap). -/
theorem test_v41_7 :
    after [0xC1] [(0xFFFF, 0x34), (0x0000, 0x12)]
      { launch with sp := 0xFFFF }
      (fun t => (t.bc, t.sp, t.pc, t.r, t.cycles)) =
    some (0x1234, 0x0001, 0x0101, 0x01, 10) := by
  decide +kernel

/-- V41.8, LD SP,HL. -/
theorem test_v41_8 :
    after [0xF9] []
      { launch with hl := 0x8000 }
      (fun t => (t.sp, t.pc, t.r, t.cycles)) =
    some (0x8000, 0x0101, 0x01, 6) := by
  decide +kernel

/-- V41.9, PUSH IY. -/
theorem test_v41_9 :
    after [0xFD, 0xE5] []
      { launch with iy := 0xA1B2 }
      (fun t => ((t.sp, t.pc, t.r), (t.read8 0xFFEE, t.read8 0xFFEF, t.cycles))) =
    some ((0xFFEE, 0x0102, 0x02), (0xB2, 0xA1, 15)) := by
  decide +kernel


/-! ### V42: exchange and block transfer/compare -/

/-- V42.1, EX DE,HL. -/
theorem test_v42_1 :
    after [0xEB] []
      { launch with de := 0x1111, hl := 0x2222 }
      (fun t => (t.de, t.hl, t.pc, t.r, t.cycles)) =
    some (0x2222, 0x1111, 0x0101, 0x01, 4) := by
  decide +kernel

/-- V42.2, EX AF,AF'. -/
theorem test_v42_2 :
    after [0x08] []
      { launch with af := 0x0102, af' := 0x0304 }
      (fun t => (t.af, t.af', t.pc, t.r, t.cycles)) =
    some (0x0304, 0x0102, 0x0101, 0x01, 4) := by
  decide +kernel

/-- V42.3, EXX. -/
theorem test_v42_3 :
    after [0xD9] []
      { launch with bc := 0x1122, bc' := 0x5500 }
      (fun t => (t.bc, t.bc', t.pc, t.r, t.cycles)) =
    some (0x5500, 0x1122, 0x0101, 0x01, 4) := by
  decide +kernel

/-- V42.4, EX (SP),HL. -/
theorem test_v42_4 :
    after [0xE3] [(0x3000, 0x78), (0x3001, 0x56)]
      { launch with sp := 0x3000, hl := 0x1234 }
      (fun t => ((t.hl, t.wz, t.pc, t.r), (t.read8 0x3000, t.read8 0x3001, t.cycles))) =
    some ((0x5678, 0x5678, 0x0101, 0x01), (0x34, 0x12, 19)) := by
  decide +kernel

/-- V42.5, LDI with BC = 1 (PV becomes 0). -/
theorem test_v42_5 :
    after [0xED, 0xA0] [(0x2000, 0x08)]
      { launch with hl := 0x2000, de := 0x3000, bc := 0x0001, af := 0x0000 }
      (fun t => ((t.af, t.bc, t.de, t.hl), (t.pc, t.r, t.read8 0x3000, t.cycles))) =
    some ((0x0008, 0x0000, 0x3001, 0x2001), (0x0102, 0x02, 0x08, 16)) := by
  decide +kernel

/-- V42.7, LDIR one unit, BC = 0 on entry (65,536 bytes). -/
theorem test_v42_7 :
    after [0xED, 0xB0] [(0x2000, 0x5A)]
      { launch with hl := 0x2000, de := 0x3000, bc := 0x0000 }
      (fun t => ((t.af, t.bc, t.de, t.hl), (t.wz, t.pc, t.read8 0x3000, t.cycles))) =
    some ((0x002C, 0xFFFF, 0x3001, 0x2001), (0x0101, 0x0100, 0x5A, 21)) := by
  decide +kernel

/-- V42.8, LDDR last unit (BC = 1). -/
theorem test_v42_8 :
    after [0xED, 0xB8] [(0x2002, 0x77)]
      { launch with hl := 0x2002, de := 0x3002, bc := 0x0001 }
      (fun t => ((t.af, t.bc, t.de, t.hl), (t.pc, t.r, t.read8 0x3002, t.cycles))) =
    some ((0x0020, 0x0000, 0x3001, 0x2001), (0x0102, 0x02, 0x77, 16)) := by
  decide +kernel

/-- V42.9, CPI match. -/
theorem test_v42_9 :
    after [0xED, 0xA1] [(0x2000, 0x3C)]
      { launch with hl := 0x2000, bc := 0x0005, af := 0x3C00 }
      (fun t => ((t.af, t.bc, t.hl, t.wz), (t.pc, t.r, t.cycles))) =
    some ((0x3C46, 0x0004, 0x2001, 0x0001), (0x0102, 0x02, 16)) := by
  decide +kernel

/-- V42.10, CPIR mismatch, repeats. -/
theorem test_v42_10 :
    after [0xED, 0xB1] [(0x2000, 0x00)]
      { launch with hl := 0x2000, bc := 0x0005, af := 0x3C00 }
      (fun t => ((t.af, t.bc, t.hl, t.wz), (t.pc, t.r, t.cycles))) =
    some ((0x3C0E, 0x0004, 0x2001, 0x0101), (0x0100, 0x02, 21)) := by
  decide +kernel

/-- V42.12, CPD with H borrow. -/
theorem test_v42_12 :
    after [0xED, 0xA9] [(0x2000, 0x01)]
      { launch with hl := 0x2000, bc := 0x0001, af := 0x1000 }
      (fun t => ((t.af, t.bc, t.hl, t.wz), (t.pc, t.r, t.cycles))) =
    some ((0x103A, 0x0000, 0x1FFF, 0xFFFF), (0x0102, 0x02, 16)) := by
  decide +kernel


/-! ### V43: 8-bit arithmetic and logic -/

/-- V43.1, ADD A,0x01 at 0x7F (overflow, half-carry). -/
theorem test_v43_1 :
    after [0xC6, 0x01] []
      { launch with af := 0x7F00 }
      (fun t => (t.af, t.pc, t.r, t.cycles)) =
    some (0x8094, 0x0102, 0x01, 7) := by
  decide +kernel

/-- V43.2, ADD A,0x01 at 0xFF (carry, zero). -/
theorem test_v43_2 :
    after [0xC6, 0x01] []
      { launch with af := 0xFF00 }
      (fun t => (t.af, t.pc, t.r, t.cycles)) =
    some (0x0051, 0x0102, 0x01, 7) := by
  decide +kernel

/-- V43.3, ADC A,B with C = 1. -/
theorem test_v43_3 :
    after [0x88] []
      { launch with af := 0x0F01, bc := 0x0000 }
      (fun t => (t.af, t.pc, t.r, t.cycles)) =
    some (0x1010, 0x0101, 0x01, 4) := by
  decide +kernel

/-- V43.4, SUB 0x01 at 0x00. -/
theorem test_v43_4 :
    after [0xD6, 0x01] []
      { launch with af := 0x0000 }
      (fun t => (t.af, t.pc, t.r, t.cycles)) =
    some (0xFFBB, 0x0102, 0x01, 7) := by
  decide +kernel

/-- V43.5, SUB 0x01 at 0x80 (overflow). -/
theorem test_v43_5 :
    after [0xD6, 0x01] []
      { launch with af := 0x8000 }
      (fun t => (t.af, t.pc, t.r, t.cycles)) =
    some (0x7F3E, 0x0102, 0x01, 7) := by
  decide +kernel

/-- V43.7, AND 0x0F. -/
theorem test_v43_7 :
    after [0xE6, 0x0F] []
      { launch with af := 0x3C00 }
      (fun t => (t.af, t.pc, t.r, t.cycles)) =
    some (0x0C1C, 0x0102, 0x01, 7) := by
  decide +kernel

/-- V43.8, XOR A. -/
theorem test_v43_8 :
    after [0xAF] []
      { launch with af := 0x55FF }
      (fun t => (t.af, t.pc, t.r, t.cycles)) =
    some (0x0044, 0x0101, 0x01, 4) := by
  decide +kernel

/-- V43.9, OR 0x80. -/
theorem test_v43_9 :
    after [0xF6, 0x80] []
      { launch with af := 0x0100 }
      (fun t => (t.af, t.pc, t.r, t.cycles)) =
    some (0x8184, 0x0102, 0x01, 7) := by
  decide +kernel

/-- V43.11, CP 0x08 (operand source). -/
theorem test_v43_11 :
    after [0xFE, 0x08] []
      { launch with af := 0x3000, params := ⟨.operand, .direct⟩ }
      (fun t => (t.af, t.pc, t.r, t.cycles)) =
    some (0x301A, 0x0102, 0x01, 7) := by
  decide +kernel

/-- V43.12, INC A at 0x7F. -/
theorem test_v43_12 :
    after [0x3C] []
      { launch with af := 0x7F01 }
      (fun t => (t.af, t.pc, t.r, t.cycles)) =
    some (0x8095, 0x0101, 0x01, 4) := by
  decide +kernel

/-- V43.14, DEC B at 0x80. -/
theorem test_v43_14 :
    after [0x05] []
      { launch with bc := 0x8000 }
      (fun t => (t.af, t.bc, t.pc, t.r, t.cycles)) =
    some (0x003E, 0x7F00, 0x0101, 0x01, 4) := by
  decide +kernel

/-- V43.16, INC (HL). -/
theorem test_v43_16 :
    after [0x34] [(0x2000, 0x0F)]
      { launch with hl := 0x2000 }
      (fun t => (t.af, t.pc, t.r, t.read8 0x2000, t.cycles)) =
    some (0x0010, 0x0101, 0x01, 0x10, 11) := by
  decide +kernel

/-- V43.17, DEC (IX+2). -/
theorem test_v43_17 :
    after [0xDD, 0x35, 0x02] [(0x2002, 0x01)]
      { launch with ix := 0x2000 }
      (fun t => ((t.af, t.wz, t.pc), (t.r, t.read8 0x2002, t.cycles))) =
    some ((0x0042, 0x2002, 0x0103), (0x02, 0x00, 23)) := by
  decide +kernel

/-- V43.18, ADD A,IXH (undocumented). -/
theorem test_v43_18 :
    after [0xDD, 0x84] []
      { launch with af := 0x1000, ix := 0x2000 }
      (fun t => (t.af, t.pc, t.r, t.cycles)) =
    some (0x3020, 0x0102, 0x02, 8) := by
  decide +kernel

/-- V43.19, SUB (IY-2). -/
theorem test_v43_19 :
    after [0xFD, 0x96, 0xFE] [(0x2000, 0x20)]
      { launch with af := 0x1000, iy := 0x2002 }
      (fun t => (t.af, t.wz, t.pc, t.r, t.cycles)) =
    some (0xF0A3, 0x2000, 0x0103, 0x02, 19) := by
  decide +kernel


/-! ### V44: general-purpose and CPU control -/

/-- V44.1, DAA after 0x15 + 0x27. -/
theorem test_v44_1 :
    after [0x27] []
      { launch with af := 0x3C28 }
      (fun t => (t.af, t.pc, t.r, t.cycles)) =
    some (0x4214, 0x0101, 0x01, 4) := by
  decide +kernel

/-- V44.2, DAA after 0x99 + 0x01 (A = 0x9A). -/
theorem test_v44_2 :
    after [0x27] []
      { launch with af := 0x9A08 }
      (fun t => (t.af, t.pc, t.r, t.cycles)) =
    some (0x0055, 0x0101, 0x01, 4) := by
  decide +kernel

/-- V44.4, CPL. -/
theorem test_v44_4 :
    after [0x2F] []
      { launch with af := 0x5A00 }
      (fun t => (t.af, t.pc, t.r, t.cycles)) =
    some (0xA532, 0x0101, 0x01, 4) := by
  decide +kernel

/-- V44.5, NEG at 0x80 (overflow). -/
theorem test_v44_5 :
    after [0xED, 0x44] []
      { launch with af := 0x8000 }
      (fun t => (t.af, t.pc, t.r, t.cycles)) =
    some (0x8087, 0x0102, 0x02, 8) := by
  decide +kernel

/-- V44.7, NEG at 0x01. -/
theorem test_v44_7 :
    after [0xED, 0x44] []
      { launch with af := 0x0100 }
      (fun t => (t.af, t.pc, t.r, t.cycles)) =
    some (0xFFBB, 0x0102, 0x02, 8) := by
  decide +kernel

/-- V44.8, CCF with C = 1. -/
theorem test_v44_8 :
    after [0x3F] []
      { launch with af := 0x2801 }
      (fun t => (t.af, t.pc, t.r, t.cycles)) =
    some (0x2838, 0x0101, 0x01, 4) := by
  decide +kernel

/-- V44.9, SCF. -/
theorem test_v44_9 :
    after [0x37] []
      { launch with af := 0x00C4 }
      (fun t => (t.af, t.pc, t.r, t.cycles)) =
    some (0x00C5, 0x0101, 0x01, 4) := by
  decide +kernel

/-- V44.11, EI. -/
theorem test_v44_11 :
    after [0xFB] []
      launch
      (fun t => (t.pc, t.r, t.iff1, t.iff2, t.cycles)) =
    some (0x0101, 0x01, true, true, 4) := by
  decide +kernel

/-- V44.12, DI. -/
theorem test_v44_12 :
    after [0xF3] []
      { launch with iff1 := true, iff2 := true }
      (fun t => (t.pc, t.r, t.iff1, t.iff2, t.cycles)) =
    some (0x0101, 0x01, false, false, 4) := by
  decide +kernel

/-- V44.13, IM 2. -/
theorem test_v44_13 :
    after [0xED, 0x5E] []
      launch
      (fun t => (t.pc, t.r, t.im, t.cycles)) =
    some (0x0102, 0x02, .im2, 8) := by
  decide +kernel


/-! ### V45: 16-bit arithmetic -/

/-- V45.1, ADD HL,DE with H from bit 11. -/
theorem test_v45_1 :
    after [0x19] []
      { launch with hl := 0x0FFF, de := 0x0001, af := 0x00C4 }
      (fun t => ((t.af, t.hl, t.wz), (t.pc, t.r, t.cycles))) =
    some ((0x00D4, 0x1000, 0x1000), (0x0101, 0x01, 11)) := by
  decide +kernel

/-- V45.2, ADD HL,HL with carry. -/
theorem test_v45_2 :
    after [0x29] []
      { launch with hl := 0x8000 }
      (fun t => ((t.af, t.hl, t.wz), (t.pc, t.r, t.cycles))) =
    some ((0x0001, 0x0000, 0x8001), (0x0101, 0x01, 11)) := by
  decide +kernel

/-- V45.3, ADC HL,BC overflow. -/
theorem test_v45_3 :
    after [0xED, 0x4A] []
      { launch with hl := 0x7FFF, bc := 0x0000, af := 0x0001 }
      (fun t => ((t.af, t.hl, t.wz), (t.pc, t.r, t.cycles))) =
    some ((0x0094, 0x8000, 0x8000), (0x0102, 0x02, 15)) := by
  decide +kernel

/-- V45.4, SBC HL,DE = 0. -/
theorem test_v45_4 :
    after [0xED, 0x52] []
      { launch with hl := 0x1234, de := 0x1234 }
      (fun t => ((t.af, t.hl, t.wz), (t.pc, t.r, t.cycles))) =
    some ((0x0042, 0x0000, 0x1235), (0x0102, 0x02, 15)) := by
  decide +kernel

/-- V45.5, SBC HL,DE borrow. -/
theorem test_v45_5 :
    after [0xED, 0x52] []
      { launch with hl := 0x0000, de := 0x0001 }
      (fun t => ((t.af, t.hl, t.wz), (t.pc, t.r, t.cycles))) =
    some ((0x00BB, 0xFFFF, 0x0001), (0x0102, 0x02, 15)) := by
  decide +kernel

/-- V45.6, INC BC at 0xFFFF (no flags). -/
theorem test_v45_6 :
    after [0x03] []
      { launch with bc := 0xFFFF, af := 0x0000 }
      (fun t => (t.bc, t.pc, t.r, t.cycles)) =
    some (0x0000, 0x0101, 0x01, 6) := by
  decide +kernel

/-- V45.7, DEC SP at 0x0000. -/
theorem test_v45_7 :
    after [0x3B] []
      { launch with sp := 0x0000 }
      (fun t => (t.sp, t.pc, t.r, t.cycles)) =
    some (0xFFFF, 0x0101, 0x01, 6) := by
  decide +kernel

/-- V45.8, ADD IX,IX. -/
theorem test_v45_8 :
    after [0xDD, 0x29] []
      { launch with ix := 0x4000 }
      (fun t => (t.ix, t.wz, t.pc, t.r, t.cycles)) =
    some (0x8000, 0x4001, 0x0102, 0x02, 15) := by
  decide +kernel


/-! ### V46: rotate and shift -/

/-- V46.1, RLCA (S Z PV kept). -/
theorem test_v46_1 :
    after [0x07] []
      { launch with af := 0x81C4 }
      (fun t => (t.af, t.pc, t.r, t.cycles)) =
    some (0x03C5, 0x0101, 0x01, 4) := by
  decide +kernel

/-- V46.2, RRA. -/
theorem test_v46_2 :
    after [0x1F] []
      { launch with af := 0x0100 }
      (fun t => (t.af, t.pc, t.r, t.cycles)) =
    some (0x0001, 0x0101, 0x01, 4) := by
  decide +kernel

/-- V46.3, RLA with C = 1. -/
theorem test_v46_3 :
    after [0x17] []
      { launch with af := 0x8001 }
      (fun t => (t.af, t.pc, t.r, t.cycles)) =
    some (0x0101, 0x0101, 0x01, 4) := by
  decide +kernel

/-- V46.4, RLC B. -/
theorem test_v46_4 :
    after [0xCB, 0x00] []
      { launch with bc := 0x8100 }
      (fun t => (t.af, t.bc, t.pc, t.r, t.cycles)) =
    some (0x0005, 0x0300, 0x0102, 0x02, 8) := by
  decide +kernel

/-- V46.5, RL (HL) with C = 0. -/
theorem test_v46_5 :
    after [0xCB, 0x16] [(0x2000, 0x80)]
      { launch with hl := 0x2000 }
      (fun t => (t.af, t.pc, t.r, t.read8 0x2000, t.cycles)) =
    some (0x0045, 0x0102, 0x02, 0x00, 15) := by
  decide +kernel

/-- V46.6, SRA A at 0x80. -/
theorem test_v46_6 :
    after [0xCB, 0x2F] []
      { launch with af := 0x8000 }
      (fun t => (t.af, t.pc, t.r, t.cycles)) =
    some (0xC084, 0x0102, 0x02, 8) := by
  decide +kernel

/-- V46.7, SLL A at 0x80 (undocumented). -/
theorem test_v46_7 :
    after [0xCB, 0x37] []
      { launch with af := 0x8000 }
      (fun t => (t.af, t.pc, t.r, t.cycles)) =
    some (0x0101, 0x0102, 0x02, 8) := by
  decide +kernel

/-- V46.8, SRL A at 0x01. -/
theorem test_v46_8 :
    after [0xCB, 0x3F] []
      { launch with af := 0x0100 }
      (fun t => (t.af, t.pc, t.r, t.cycles)) =
    some (0x0045, 0x0102, 0x02, 8) := by
  decide +kernel

/-- V46.9, RLC (IX+1),B copy form. -/
theorem test_v46_9 :
    after [0xDD, 0xCB, 0x01, 0x00] [(0x2001, 0x81)]
      { launch with ix := 0x2000 }
      (fun t => ((t.af, t.bc, t.wz, t.pc), (t.r, t.read8 0x2001, t.cycles))) =
    some ((0x0005, 0x0300, 0x2001, 0x0104), (0x02, 0x03, 23)) := by
  decide +kernel

/-- V46.10, RRC (IY+0) no copy. -/
theorem test_v46_10 :
    after [0xFD, 0xCB, 0x00, 0x0E] [(0x2000, 0x01)]
      { launch with iy := 0x2000 }
      (fun t => ((t.af, t.wz, t.pc), (t.r, t.read8 0x2000, t.cycles))) =
    some ((0x0081, 0x2000, 0x0104), (0x02, 0x80, 23)) := by
  decide +kernel

/-- V46.11, RLD. -/
theorem test_v46_11 :
    after [0xED, 0x6F] [(0x2000, 0x34)]
      { launch with af := 0x1200, hl := 0x2000 }
      (fun t => ((t.af, t.wz, t.pc), (t.r, t.read8 0x2000, t.cycles))) =
    some ((0x1300, 0x2001, 0x0102), (0x02, 0x42, 18)) := by
  decide +kernel

/-- V46.12, RRD. -/
theorem test_v46_12 :
    after [0xED, 0x67] [(0x2000, 0x34)]
      { launch with af := 0x1200, hl := 0x2000 }
      (fun t => ((t.af, t.wz, t.pc), (t.r, t.read8 0x2000, t.cycles))) =
    some ((0x1404, 0x2001, 0x0102), (0x02, 0x23, 18)) := by
  decide +kernel


/-! ### V47: bit test, set and reset -/

/-- V47.1, BIT 7,H set. -/
theorem test_v47_1 :
    after [0xCB, 0x7C] []
      { launch with hl := 0x8000 }
      (fun t => (t.af, t.pc, t.r, t.cycles)) =
    some (0x0090, 0x0102, 0x02, 8) := by
  decide +kernel

/-- V47.2, BIT 0,A clear, C kept. -/
theorem test_v47_2 :
    after [0xCB, 0x47] []
      { launch with af := 0x2801 }
      (fun t => (t.af, t.pc, t.r, t.cycles)) =
    some (0x287D, 0x0102, 0x02, 8) := by
  decide +kernel

/-- V47.3, BIT 7,(HL): X/Y from W. -/
theorem test_v47_3 :
    after [0xCB, 0x7E] []
      { launch with hl := 0x2000, wz := 0x2800 }
      (fun t => (t.af, t.pc, t.r, t.cycles)) =
    some (0x007C, 0x0102, 0x02, 12) := by
  decide +kernel

/-- V47.4, BIT 3,(IX+5): WZ = EA. -/
theorem test_v47_4 :
    after [0xDD, 0xCB, 0x05, 0x5E] []
      { launch with ix := 0x2800 }
      (fun t => (t.af, t.wz, t.pc, t.r, t.cycles)) =
    some (0x007C, 0x2805, 0x0104, 0x02, 20) := by
  decide +kernel

/-- V47.5, SET 7,(HL). -/
theorem test_v47_5 :
    after [0xCB, 0xFE] []
      { launch with hl := 0x2000 }
      (fun t => (t.pc, t.r, t.read8 0x2000, t.cycles)) =
    some (0x0102, 0x02, 0x80, 15) := by
  decide +kernel

/-- V47.6, RES 0,(IX-2),A copy form. -/
theorem test_v47_6 :
    after [0xDD, 0xCB, 0xFE, 0x87] [(0x2000, 0xFF)]
      { launch with ix := 0x2002 }
      (fun t => ((t.af, t.wz, t.pc), (t.r, t.read8 0x2000, t.cycles))) =
    some ((0xFE00, 0x2000, 0x0104), (0x02, 0xFE, 23)) := by
  decide +kernel

/-- V47.7, SET 2,(IY+2),B copy form. -/
theorem test_v47_7 :
    after [0xFD, 0xCB, 0x02, 0xD0] []
      { launch with iy := 0x2000 }
      (fun t => ((t.bc, t.wz, t.pc), (t.r, t.read8 0x2002, t.cycles))) =
    some ((0x0400, 0x2002, 0x0104), (0x02, 0x04, 23)) := by
  decide +kernel


/-! ### V48: jump, call, return, restart -/

/-- V48.1, JR -2 (to itself). -/
theorem test_v48_1 :
    after [0x18, 0xFE] []
      launch
      (fun t => (t.wz, t.pc, t.r, t.cycles)) =
    some (0x0100, 0x0100, 0x01, 12) := by
  decide +kernel

/-- V48.2, JR NZ,+5 taken. -/
theorem test_v48_2 :
    after [0x20, 0x05] []
      launch
      (fun t => (t.wz, t.pc, t.r, t.cycles)) =
    some (0x0107, 0x0107, 0x01, 12) := by
  decide +kernel

/-- V48.3, JR Z,+5 not taken. -/
theorem test_v48_3 :
    after [0x28, 0x05] []
      launch
      (fun t => (t.pc, t.r, t.cycles)) =
    some (0x0102, 0x01, 7) := by
  decide +kernel

/-- V48.4, DJNZ with B = 1 (falls through). -/
theorem test_v48_4 :
    after [0x10, 0xFE] []
      { launch with bc := 0x0100 }
      (fun t => (t.bc, t.pc, t.r, t.cycles)) =
    some (0x0000, 0x0102, 0x01, 8) := by
  decide +kernel

/-- V48.6, JP PE,0x2000 taken. -/
theorem test_v48_6 :
    after [0xEA, 0x00, 0x20] []
      { launch with af := 0x0004 }
      (fun t => (t.wz, t.pc, t.r, t.cycles)) =
    some (0x2000, 0x2000, 0x01, 10) := by
  decide +kernel

/-- V48.7, JP NZ,0x2000 not taken (WZ still written). -/
theorem test_v48_7 :
    after [0xC2, 0x00, 0x20] []
      { launch with af := 0x0040 }
      (fun t => (t.wz, t.pc, t.r, t.cycles)) =
    some (0x2000, 0x0103, 0x01, 10) := by
  decide +kernel

/-- V48.8, CALL 0x2000. -/
theorem test_v48_8 :
    after [0xCD, 0x00, 0x20] []
      launch
      (fun t => ((t.wz, t.sp, t.pc, t.r), (t.read8 0xFFEE, t.read8 0xFFEF, t.cycles))) =
    some ((0x2000, 0xFFEE, 0x2000, 0x01), (0x03, 0x01, 17)) := by
  decide +kernel

/-- V48.9, CALL Z,0x2000 not taken. -/
theorem test_v48_9 :
    after [0xCC, 0x00, 0x20] []
      launch
      (fun t => (t.wz, t.pc, t.r, t.cycles)) =
    some (0x2000, 0x0103, 0x01, 10) := by
  decide +kernel

/-- V48.10, RET. -/
theorem test_v48_10 :
    after [0xC9] [(0x3000, 0x34), (0x3001, 0x12)]
      { launch with sp := 0x3000 }
      (fun t => (t.wz, t.sp, t.pc, t.r, t.cycles)) =
    some (0x1234, 0x3002, 0x1234, 0x01, 10) := by
  decide +kernel

/-- V48.11, RET NZ not taken. -/
theorem test_v48_11 :
    after [0xC0] []
      { launch with af := 0x0040, sp := 0x3000 }
      (fun t => (t.pc, t.r, t.cycles)) =
    some (0x0101, 0x01, 5) := by
  decide +kernel

/-- V48.12, RETI (no node under service). -/
theorem test_v48_12 :
    after [0xED, 0x4D] [(0x3000, 0x34), (0x3001, 0x12)]
      { launch with sp := 0x3000, iff2 := true }
      (fun t => ((t.wz, t.sp, t.pc), (t.r, t.iff1, t.cycles))) =
    some ((0x1234, 0x3002, 0x1234), (0x02, true, 14)) := by
  decide +kernel

/-- V48.13, RETN. -/
theorem test_v48_13 :
    after [0xED, 0x45] [(0x3000, 0x34), (0x3001, 0x12)]
      { launch with sp := 0x3000, iff2 := true }
      (fun t => ((t.wz, t.sp, t.pc), (t.r, t.iff1, t.cycles))) =
    some ((0x1234, 0x3002, 0x1234), (0x02, true, 14)) := by
  decide +kernel

/-- V48.14, RST 0x38. -/
theorem test_v48_14 :
    after [0xFF] []
      launch
      (fun t => ((t.wz, t.sp, t.pc, t.r), (t.read8 0xFFEE, t.read8 0xFFEF, t.cycles))) =
    some ((0x0038, 0xFFEE, 0x0038, 0x01), (0x01, 0x01, 11)) := by
  decide +kernel

/-- V48.15, JP (HL). -/
theorem test_v48_15 :
    after [0xE9] []
      { launch with hl := 0x3000 }
      (fun t => (t.pc, t.r, t.cycles)) =
    some (0x3000, 0x01, 4) := by
  decide +kernel

/-- V48.16, JP (IY). -/
theorem test_v48_16 :
    after [0xFD, 0xE9] []
      { launch with iy := 0x4000 }
      (fun t => (t.pc, t.r, t.cycles)) =
    some (0x4000, 0x02, 8) := by
  decide +kernel


/-! ### V49: input and output -/

/-- V49.1, IN A,(0xFE), port answers 0x1F. -/
theorem test_v49_1 :
    after [0xDB, 0xFE] []
      { launch with af := 0x1200, ioScript := [⟨0x1F, []⟩] }
      (fun t => ((t.af, t.wz, t.pc), (t.r, t.ioLog, t.cycles))) =
    some ((0x1F00, 0x12FF, 0x0102), (0x01, [.read 0x12FE 0x1F], 11)) := by
  decide +kernel

/-- V49.2, IN B,(C), port answers 0x00. -/
theorem test_v49_2 :
    after [0xED, 0x40] []
      { launch with bc := 0x12FE, af := 0x0001, ioScript := [⟨0x00, []⟩] }
      (fun t => ((t.af, t.bc, t.wz, t.pc), (t.r, t.ioLog, t.cycles))) =
    some ((0x0045, 0x00FE, 0x12FF, 0x0102), (0x02, [.read 0x12FE 0x00], 12)) := by
  decide +kernel

/-- V49.3, IN E,(C), port answers 0x80. -/
theorem test_v49_3 :
    after [0xED, 0x58] []
      { launch with bc := 0x12FE, ioScript := [⟨0x80, []⟩] }
      (fun t => ((t.af, t.de, t.wz, t.pc), (t.r, t.ioLog, t.cycles))) =
    some ((0x0080, 0x0080, 0x12FF, 0x0102), (0x02, [.read 0x12FE 0x80], 12)) := by
  decide +kernel

/-- V49.4, OUT (0xFE),A. -/
theorem test_v49_4 :
    after [0xD3, 0xFE] []
      { launch with af := 0x1200, ioScript := [⟨0xFF, []⟩] }
      (fun t => (t.wz, t.pc, t.r, t.ioLog, t.cycles)) =
    some (0x12FF, 0x0102, 0x01, [.write 0x12FE 0x12], 11) := by
  decide +kernel

/-- V49.5, OUT (C),D. -/
theorem test_v49_5 :
    after [0xED, 0x51] []
      { launch with bc := 0x34FE, de := 0x9900, ioScript := [⟨0xFF, []⟩] }
      (fun t => (t.wz, t.pc, t.r, t.ioLog, t.cycles)) =
    some (0x34FF, 0x0102, 0x02, [.write 0x34FE 0x99], 12) := by
  decide +kernel

/-- V49.6, INI, port answers 0x55. -/
theorem test_v49_6 :
    after [0xED, 0xA2] []
      { launch with bc := 0x0210, hl := 0x2000, ioScript := [⟨0x55, []⟩] }
      (fun t => ((t.bc, t.hl, t.wz, t.pc), (t.r, t.read8 0x2000, t.ioLog, t.cycles))) =
    some ((0x0110, 0x2001, 0x0211, 0x0102), (0x02, 0x55, [.read 0x0210 0x55], 16)) := by
  decide +kernel

/-- V49.7, OUTI. -/
theorem test_v49_7 :
    after [0xED, 0xA3] [(0x2000, 0x80)]
      { launch with bc := 0x0110, hl := 0x2000, ioScript := [⟨0xFF, []⟩] }
      (fun t => ((t.af, t.bc, t.hl, t.wz), (t.pc, t.r, t.ioLog, t.cycles))) =
    some ((0x0042, 0x0010, 0x2001, 0x0011), (0x0102, 0x02, [.write 0x0010 0x80], 16)) := by
  decide +kernel

/-- V49.8, OTIR one unit, B = 2. -/
theorem test_v49_8 :
    after [0xED, 0xB3] [(0x2000, 0x01)]
      { launch with bc := 0x0210, hl := 0x2000, ioScript := [⟨0xFF, []⟩] }
      (fun t => ((t.af, t.bc, t.hl, t.wz), (t.pc, t.r, t.ioLog, t.cycles))) =
    some ((0x0004, 0x0110, 0x2001, 0x0111), (0x0100, 0x02, [.write 0x0110 0x01], 21)) := by
  decide +kernel

/-- V49.9, INDR last unit, B = 1, port answers 0xFF. -/
theorem test_v49_9 :
    after [0xED, 0xBA] []
      { launch with bc := 0x0110, hl := 0x2000, ioScript := [⟨0xFF, []⟩] }
      (fun t => ((t.af, t.bc, t.hl, t.wz), (t.pc, t.read8 0x2000, t.ioLog, t.cycles))) =
    some ((0x0057, 0x0010, 0x1FFF, 0x010F), (0x0102, 0xFF, [.read 0x0110 0xFF], 16)) := by
  decide +kernel

/-- V30.7, NOP at 0xFFFF: pc wraps. -/
theorem test_v30_7 :
    after [0x00] [] { launch with pc := 0xFFFF } (fun t => (t.pc, t.r, t.cycles)) =
    some (0x0000, 0x01, 4) := by
  decide +kernel

/-- V30.8, LD A,0x77 at 0xFFFF: n is fetched from 0x0000. -/
theorem test_v30_8 :
    after [0x3E, 0x77] [] { launch with pc := 0xFFFF } (fun t => (t.af, t.pc, t.cycles)) =
    some (0x7700, 0x0001, 7) := by
  decide +kernel

/-- V44.10, the second step: a halted core idles. -/
theorem test_v44_10_idle :
    after [0x00] [] { launch with pc := 0x0101, halted := true, r := 0x01 }
      (fun t => (t.pc, t.r, t.halted, t.cycles)) =
    some (0x0101, 0x02, true, 4) := by
  decide +kernel

/-- V44.14 and V60.9: IM 1 faults with the pc of its first byte, and nothing is kept. -/
theorem test_v44_14 :
    faultOf (load [0xED, 0x56] launch) = some 0x0100 ∧
      (answerOf (stepOneInstruction (load [0xED, 0x56] launch))).map Prod.fst =
        some { load [0xED, 0x56] launch with faulted := some 0x0100 } := by
  decide +kernel

/-- V44.15: IM 0 faults. -/
theorem test_v44_15 :
    faultOf (load [0xED, 0x46] launch) = some 0x0100 := by
  decide +kernel

/-! ### E6: the unmapped and the read-only page -/

/-- The map of E6: page 0x10 unmapped, a ROM of 1,024 bytes with 0xC3 at index 0x010. -/
def holed : State :=
  { launch with
    bus := { ram with
      stores := [⟨65536, []⟩, ⟨1024, [(0x010, 0xC3)]⟩]
      map := ram.map.set 16 .unmapped } }

/-- E6's launch: the example says page 0x10. -/
theorem test_e6_launch :
    CleanLaunch { LaunchTerms.default with map := [(16, .unmapped)] } holed = true ∧
      CleanLaunch .default holed = false := by
  decide +kernel

/-- E6, step 2: the write to the unmapped page is dropped. -/
theorem test_e6_dropped :
    after [0x32, 0x00, 0x40] [] { holed with af := 0x5A00 }
      (fun t => (t.read8 0x4000, t.wz, t.bus.stores.map (fun st => st.cells.length), t.cycles)) =
    some (0xFF, 0x5A01, [2, 1], 13) := by
  decide +kernel

/-- E6: the host's remap, and step 4: the write to the read-only page is dropped. -/
theorem test_e6_read_only :
    (match remap 16 1 (.mapped 1 0 true) holed with
     | .ok s => after [0x32, 0x10, 0x40] [] { s with af := 0xFF00 } (fun t => (t.read8 0x4010, t.wz))
     | .error _ => none) = some (0xC3, 0xFF11) := by
  decide +kernel

/-! ### E4 and V60: interrupts -/

/-- IM 2 with I = 0x80, both enables set. -/
def vectored : State := { launch with im := .im2, i := 0x80, iff1 := true, iff2 := true }

/-- V60.4's launch: the row says IM2 and IFF=1/1, and has node 0. -/
theorem test_v60_launch :
    let s := { vectored with bus := { ram with chain := [⟨false, false, 0x10⟩] } }
    CleanLaunch { LaunchTerms.default with im := .im2, iff1 := true, iff2 := true } s = true ∧
      CleanLaunch .default s = false := by
  decide +kernel

/-- A state with a chain and a pending request. -/
def pending (chain : List Node) (s : State) : State :=
  { s with bus := { s.bus with chain := chain, intPending := true } }

/-- E4, step 1: NOP, then acceptance at its boundary. -/
theorem test_e4_accept :
    after [0x00] [] (pending [⟨true, false, 0x10⟩] { vectored with pc := 0x0104 })
      (fun t => ((t.pc, t.sp, t.r), (t.iff1, t.iff2, t.cycles),
        (t.read16 0xFFEE, t.bus.chain))) =
    some ((0x8010, 0xFFEE, 0x02), (false, false, 23), (0x0105, [⟨false, true, 0x10⟩])) := by
  decide +kernel

/-- E4, step 3: RETI restores the pc and notifies the chain. -/
theorem test_e4_return :
    after [0xED, 0x4D] [(0xFFEE, 0x05), (0xFFEF, 0x01)]
      { vectored with
        pc := 0x8011, sp := 0xFFEE, bus := { vectored.bus with chain := [⟨false, true, 0x10⟩] } }
      (fun t => (t.pc, t.sp, t.cycles, t.bus.chain)) =
    some (0x0105, 0xFFF0, 14, [⟨false, false, 0x10⟩]) := by
  decide +kernel

/-- V60.1, step 1: EI's own boundary takes nothing. -/
theorem test_v60_1_shadow :
    after [0xFB] [] (pending [⟨true, false, 0x10⟩] { vectored with iff1 := false, iff2 := false })
      (fun t => (t.pc, t.iff1, t.eiShadow, t.bus.intPending, t.cycles)) =
    some (0x0101, true, false, true, 4) := by
  decide +kernel

/-- V60.2: with IFF1 = 0 the request is retracted. -/
theorem test_v60_2_decline :
    after [0x00] [] (pending [⟨true, false, 0x10⟩] { vectored with iff1 := false, iff2 := false })
      (fun t => (t.pc, t.bus.intPending, t.bus.chain, t.cycles)) =
    some (0x0101, false, [⟨false, false, 0x10⟩], 4) := by
  decide +kernel

/-- V60.3: acceptance with IM = 0 faults. -/
theorem test_v60_3_fault :
    faultOf (load [0x00] (pending [⟨true, false, 0x10⟩] { vectored with im := .im0 })) =
      some 0x0100 := by
  decide +kernel

/-- R640: a halted core with IM not 2 faults at acceptance; the pc recorded is log entry 26's. -/
theorem test_halted_fault :
    faultOf (pending [⟨true, false, 0x10⟩]
      { vectored with im := .im0, pc := 0x0101, halted := true }) = some 0x0101 := by
  decide +kernel

/-- V60.4, step 3: an idle step wakes up. -/
theorem test_v60_4_wake :
    after [] [] (pending [⟨true, false, 0x10⟩]
        { vectored with pc := 0x0101, halted := true, r := 0x02 })
      (fun t => ((t.pc, t.sp, t.r), t.halted, t.read8 0xFFEE, t.cycles)) =
    some ((0x8010, 0xFFEE, 0x04), false, 0x01, 23) := by
  decide +kernel

/-- V60.6, step 4: RETI frees the chain and its own boundary takes the waiting node. -/
theorem test_v60_6_repropagate :
    after [0xED, 0x4D] [(0xFFEE, 0x01), (0xFFEF, 0x01)]
      { vectored with
        pc := 0x8022, sp := 0xFFEE
        bus := { vectored.bus with chain := [⟨false, true, 0x20⟩, ⟨true, false, 0x30⟩] } }
      (fun t => ((t.pc, t.sp, t.iff1), t.bus.chain, t.cycles)) =
    some ((0x8030, 0xFFEE, false), [⟨false, false, 0x20⟩, ⟨false, true, 0x30⟩], 33) := by
  decide +kernel

/-- V60.7: an invalid opcode's boundary accepts, and the pushed pc is the opcode's address. -/
theorem test_v60_7_invalid :
    after [0xED, 0x00] [] (pending [⟨true, false, 0x10⟩] vectored)
      (fun t => ((t.pc, t.sp, t.r), t.inv, t.read8 0xFFEE, t.read8 0xFFEF, t.cycles)) =
    some ((0x8010, 0xFFEE, 0x03), true, 0x00, 0x01, 23) := by
  decide +kernel

/-- V60.8, step 2: a repeating LDIR is interrupted between units. -/
theorem test_v60_8_block :
    after [0xED, 0xB0] []
      (pending [⟨true, false, 0x10⟩] { vectored with hl := 0x2001, de := 0x3001, bc := 0x0002 })
      (fun t => ((t.pc, t.sp, t.bc), t.read8 0xFFEE, t.read8 0xFFEF, t.cycles)) =
    some ((0x8010, 0xFFEE, 0x0001), 0x00, 0x01, 40) := by
  decide +kernel

/-- V60.12: table dispatch. -/
theorem test_v60_12_table :
    after [0x00] [(0x8010, 0x00), (0x8011, 0x90)]
      (pending [⟨true, false, 0x11⟩] { vectored with params := ⟨.result, .table⟩ })
      (fun t => (t.pc, t.wz, t.sp, t.cycles)) =
    some (0x9000, 0x9000, 0xFFEE, 23) := by
  decide +kernel

/-! ### E1, E7 and the history -/

/-- E1, second row, second step: SUB B after ADD A,B gives A back with the same C and H. -/
theorem test_e1_subtract :
    after [0x90] [] { launch with af := 0x0051, bc := 0x0100 } (fun t => (t.af, t.cycles)) =
    some (0xFFBB, 4) := by
  decide +kernel

/-- E7, step 2: the raw sum that DAA adjusts. -/
theorem test_e7_raw_sum :
    after [0xC6, 0x27] [] { launch with af := 0x1500 } (fun t => (t.af, t.cycles)) =
    some (0x3C28, 7) := by
  decide +kernel

/-- After V30.11's first step: the invalid step wrote one entry. -/
theorem test_history_of_invalid :
    after [0xED, 0x00] [] launch (fun t => (t.hist.head?, t.hidx)) = some (some 0x0100, 1) := by
  decide +kernel

/-! ## Reset (R60, R600, R601) -/

theorem test_reset_values :
    (State.reset.pc, State.reset.i, State.reset.r, State.reset.im) = (0x0000, 0x00, 0x00, .im0) ∧
      (State.reset.iff1, State.reset.halted, State.reset.inv) = (false, false, false) := by
  decide +kernel

/-- V70.1: reset from a state in the middle of a handler. -/
theorem test_v70_1 :
    let t := State.resetWith .zero
      (pending [⟨true, true, 0x10⟩] { vectored with pc := 0x1234, halted := true, r := 0x55 })
    (t.pc, t.i, t.r, t.im, t.iff1) = (0x0000, 0x00, 0x00, .im0, false) ∧
      t.bus.chain = [⟨false, false, 0x10⟩] ∧ t.bus.intPending = false := by
  decide +kernel

/-- The test helper of R42 looks past Y and X. -/
theorem test_flags_match : flagsMatch 0x2D 0x05 = true ∧ flagsMatch 0x2D 0x04 = false := by decide

/-! ## Refusals of the host calls (R660) -/

theorem test_powered_off_refused :
    step { launch with power := .off } = .refused .poweredOff ∧
      powerOff { launch with power := .off } = .error .poweredOff := ⟨rfl, rfl⟩

theorem test_faulted_refused : step { launch with faulted := some 0x0100 } = .refused .machineFaulted := rfl

theorem test_unknown_register :
    refusalOf (readRegister "XY" launch) = some .unknownRegister ∧
      answerOf (readRegister "SP" launch) = some 0xFFF0 := by
  decide +kernel

theorem test_power_on_refused :
    refusalOf (powerOn .otherCpu .zero) = some .notZ80Variant ∧
      refusalOf (powerOn (.z80 { Platform.default with map := [] }) .zero) = some .badPlatform := by
  decide +kernel

/-! ## What the hypotheses of the statements are met by -/

/-- The boundary addresses used below are writable. -/
theorem test_witness_StoreByte :
    StateWf { launch with hl := 0xFFFF } = true ∧ writableAt launch.bus 0xFFFF = true := by
  decide +kernel

theorem test_witness_StorePair : StateWf launch = true ∧ writableAt launch.bus (0xFFFF + 1) = true := by
  decide +kernel

theorem test_witness_PushPair : StateWf { launch with sp := 0x0001 } = true := by decide +kernel

theorem test_witness_ExchangeStackTop : StateWf { launch with sp := 0xFFFF } = true := by decide +kernel

theorem test_witness_BlockTransfer : StateWf { launch with bc := 0x0001, de := 0xFFFF } = true := by
  decide +kernel

theorem test_witness_IncrementDecrementMemory : StateWf { launch with hl := 0xFFFF } = true := by
  decide +kernel

theorem test_witness_RotateShift : StateWf { launch with ix := 0xFFFF } = true := by decide +kernel

theorem test_witness_DigitRotates : StateWf { launch with hl := 0x2000 } = true := by decide +kernel

theorem test_witness_SetReset : StateWf { launch with iy := 0x0000 } = true := by decide +kernel

theorem test_witness_BlockInput : StateWf { launch with bc := 0x0100 } = true := by decide +kernel

/-- A call's condition met and not met. -/
theorem test_witness_CallsAndRestarts :
    StateWf { launch with af := 0x0040 } = true ∧
      condition .z (State.f { launch with af := 0x0040 }) = true ∧
      condition .nz (State.f { launch with af := 0x0040 }) = false := by
  decide +kernel

theorem test_witness_RefreshRegisterTransfers :
    (∃ u : State, fetch (load [0xED, 0x5F] { launch with r := 0x7E }) = .ok (.ld_A_R, u)) ∧
      ∃ u : State, fetch (load [0xED, 0x4F] launch) = .ok (.ld_R_A, u) :=
  ⟨⟨_, rfl⟩, ⟨_, rfl⟩⟩

theorem test_witness_LegacyInterruptModes :
    ready (load [0xED, 0x46] launch) ∧ (load [0xED, 0x46] launch).halted = false ∧
      (∃ u : State, fetch (load [0xED, 0x46] launch) = .ok (.im_0, u)) ∧
      ∃ u : State, fetch (load [0xED, 0x56] launch) = .ok (.im_1, u) :=
  ⟨⟨rfl, rfl⟩, rfl, ⟨_, rfl⟩, ⟨_, rfl⟩⟩

theorem test_witness_PortAccess :
    State.ioScript { launch with ioScript := [⟨0x1F, [.chainRequest 0]⟩] } = [⟨0x1F, [.chainRequest 0]⟩] ∧
      launch.ioScript = [] := ⟨rfl, rfl⟩

/-- An unmapped page, a read-only one and a writable one, at the ends of a page. -/
theorem test_witness_MemoryAccess :
    holed.bus.pageSource ((0x4000 : Word) >>> 10).toNat = .unmapped ∧
      holed.bus.pageSource ((0x43FF : Word) >>> 10).toNat = .unmapped ∧
      { holed.bus with map := holed.bus.map.set 16 (.mapped 1 0 true) }.pageSource
        ((0x43FF : Word) >>> 10).toNat = .mapped 1 0 true ∧
      holed.bus.pageSource ((0x4400 : Word) >>> 10).toNat = .mapped 0 0x4400 false ∧
      StateWf holed = true := by
  decide +kernel

theorem test_witness_WordsAndStack : StateWf { launch with sp := 0x0001 } = true := by decide +kernel

/-- A range that ends at the last page on a store it just fits, one page further, and a store one byte
too small. -/
theorem test_witness_Remap :
    StateWf holed = true ∧ holed.power = .on ∧
      (63 + 1 ≤ 64 ∧ (1024 * 63) + 1 * 1024 ≤ 65536 ∧ holed.bus.stores[0]?.map Store.size = some 65536) ∧
      ¬(63 + 2 ≤ 64) ∧
      (holed.bus.stores[1]?.map Store.size = some 1024 ∧ ¬(1 + 1 * 1024 ≤ 1024)) := by
  decide +kernel

theorem test_witness_CanonicalMemory :
    cellsWf 65536 0 [(0, 0x01), (65535, 0xFF)] = true ∧ cellsWf 65536 0 [] = true ∧
      cellsWf 65536 0 [(65536, 0x01)] = false ∧ cellsWf 65536 0 [(5, 0x00)] = false := by
  decide +kernel

theorem test_witness_RegisterAliasing :
    regFits .a 0x00FF = true ∧ regFits .a 0x0100 = false ∧ regFits .im 2 = true ∧
      regFits .iff1 1 = true ∧ regFits .sp 0xFFFF = true := by
  decide

theorem test_witness_ChainAcknowledge :
    chainAck [⟨false, false, 0x20⟩, ⟨true, false, 0x30⟩] =
        some (0x30, [⟨false, false, 0x20⟩, ⟨false, true, 0x30⟩]) ∧
      chainAck [⟨false, true, 0x20⟩, ⟨true, false, 0x30⟩] = none := by
  decide

/-- The last node, a node beyond the chain; IEI true and false; no node and one node under service. -/
theorem test_witness_ChainRules :
    (pending [⟨false, false, 0x20⟩, ⟨false, false, 0x30⟩] launch).power = .on ∧
      [(⟨false, true, 0x20⟩ : Node), ⟨true, false, 0x30⟩][1]? = some ⟨true, false, 0x30⟩ ∧
      [(⟨false, true, 0x20⟩ : Node), ⟨true, false, 0x30⟩][2]? = none ∧
      iei [⟨false, true, 0x20⟩, ⟨true, false, 0x30⟩] 0 ∧
      ¬iei [⟨false, true, 0x20⟩, ⟨true, false, 0x30⟩] 1 ∧
      ∀ n ∈ [(⟨true, false, 0x20⟩ : Node)], n.ius = false := by
  refine ⟨rfl, rfl, rfl, fun j m h => absurd h (Nat.not_lt_zero j), fun h => ?_, by decide⟩
  exact Bool.noConfusion (h 0 ⟨false, true, 0x20⟩ (Nat.zero_lt_one) rfl)

/-- One state for each case of the boundary. -/
theorem test_witness_InstructionBoundary :
    let asked := pending [⟨true, false, 0x10⟩] vectored
    State.eiShadow { launch with eiShadow := true } = true ∧
    (launch.eiShadow = false ∧ launch.bus.intPending = false) ∧
    (asked.eiShadow = false ∧ asked.bus.intPending = true ∧ (asked.iff1 && asked.iff2) = true ∧
      asked.im = .im2 ∧ chainAck asked.bus.chain = some (0x10, [⟨false, true, 0x10⟩]) ∧
      StateWf asked = true ∧ asked.params.im2Dispatch = .direct) ∧
    (State.iff1 { asked with iff2 := false } && State.iff2 { asked with iff2 := false }) = false ∧
    State.im { asked with im := .im0 } ≠ .im2 ∧
    chainAck (pending [⟨false, false, 0x10⟩] vectored).bus.chain = none ∧
    State.params { asked with params := ⟨.result, .table⟩ } = ⟨.result, .table⟩ := by
  decide +kernel

theorem test_witness_InvalidOpcode :
    let s := load [0xED, 0x00] launch
    ready s ∧ s.halted = false ∧ knownPattern (s.read8 s.pc) (s.read8 (s.pc + 1)) = false :=
  ⟨⟨rfl, rfl⟩, rfl, by decide +kernel⟩

theorem test_witness_HaltedIdle :
    ready { launch with halted := true } ∧ State.halted { launch with halted := true } = true :=
  ⟨⟨rfl, rfl⟩, rfl⟩

/-- The write index at the end of the ring. -/
theorem test_witness_History :
    historyWf { launch with hidx := 15 } = true ∧ launch.power = .on ∧ 14 + 1 < launch.hist.length := by
  decide +kernel

theorem test_witness_Reset : State.power { launch with power := .off } = .off ∧ launch.power = .on :=
  ⟨rfl, rfl⟩

theorem test_witness_FetchAndOperands :
    ∃ u : State, fetch (load [0xDD, 0xCB, 0x7F, 0x46] { launch with pc := 0xFFFE }) =
      .ok (.bit_0_mIXd_z6 0x7F, u) := ⟨_, rfl⟩

theorem test_witness_StepRunsDecoded :
    let s := load [0x3E, 0x77] { launch with pc := 0xFFFF }
    ready s ∧ s.halted = false ∧
      decode [s.read8 s.pc, s.read8 (s.pc + 1), s.read8 (s.pc + 2), s.read8 (s.pc + 3)] =
        .ok (.ld_A_n 0x77, [0x00, 0x00]) := ⟨⟨rfl, rfl⟩, rfl, rfl⟩

theorem test_witness_DecodeExact :
    decode [0xED, 0x5E, 0xED] = .ok (.im_2, [0xED]) ∧ wellFormedBytes [0xED, 0x5E, 0xED] = true :=
  ⟨rfl, rfl⟩

theorem test_witness_StepKeepsWellFormed :
    StateWf launch = true ∧ after [0x36, 0x77] [] { launch with hl := 0xFFFF } StateWf = some true := by
  decide +kernel

theorem test_witness_ResetWellFormed : StateWf holed = true := by decide +kernel

/-- Steps that change what OnlyWriters speaks of. -/
theorem test_witness_OnlyWriters :
    after [0xED, 0x4F] [] { launch with af := 0x8000 } (fun t => t.r.getLsbD 7) = some true ∧
      after [0xED, 0x47] [] { launch with af := 0x8000 } (fun t => t.i) = some 0x80 ∧
      after [0x08] [] { launch with af := 0x8000 } (fun t => t.af') = some 0x8000 ∧
      after [0xD9] [] { launch with bc := 0x1234 } (fun t => t.bc') = some 0x1234 ∧
      after [0xED, 0x5E] [] launch (fun t => t.im) = some .im2 ∧
      after [0xED, 0x45] [] { launch with iff2 := true } (fun t => t.iff1) = some true := by
  decide +kernel

end

end Sys2Proof.Tests
end

section
/-! PROOFS. The statements of 10_state.md: which instructions write the state that only they write
(O59), the register pairs and their halves (O43), and reset (O50). -/

namespace Sys2Proof

open Machine

/-! ## The reserved part of the state

R[7], I, the shadow registers, IM and the interrupt enables: every instruction but a few leaves all of
it, and the fetch, the halted idle and the boundary touch no more than the enables. -/

/-- The part of the state that only named instructions write (R32, R37, R38, R50, R51). -/
structure Reserved where
  r7 : Bool
  i : Byte
  af' : Word
  bc' : Word
  de' : Word
  hl' : Word
  wz' : Word
  im : IntMode
  iff1 : Bool
  iff2 : Bool

/-- The reserved part of a state. -/
def reserved (s : State) : Reserved :=
  ⟨s.r.getLsbD 7, s.i, s.af', s.bc', s.de', s.hl', s.wz', s.im, s.iff1, s.iff2⟩

@[simp] theorem reserved_setReg8 (r : Reg8) (v : Byte) (s : State) :
    reserved (s.setReg8 r v) = reserved s := by
  cases r <;> rfl

@[simp] theorem reserved_setPairSS (p : PairSS) (v : Word) (s : State) :
    reserved (s.setPairSS p v) = reserved s := by
  cases p <;> rfl

@[simp] theorem reserved_setPairQQ (p : PairQQ) (v : Word) (s : State) :
    reserved (s.setPairQQ p v) = reserved s := by
  cases p <;> rfl

@[simp] theorem reserved_setIdx (x : Idx) (v : Word) (s : State) :
    reserved (s.setIdx x v) = reserved s := by
  cases x <;> rfl

@[simp] theorem reserved_setHalf (x : Idx) (k : Half) (v : Byte) (s : State) :
    reserved (s.setHalf x k v) = reserved s := by
  cases k <;> exact reserved_setIdx x _ s

@[simp] theorem reserved_setFlags (f : Flags) (s : State) :
    reserved (s.setFlags f) = reserved s := rfl

@[simp] theorem reserved_setWZ (v : Word) (s : State) : reserved (s.setWZ v) = reserved s := rfl

@[simp] theorem reserved_setCycles (n : Nat) (s : State) :
    reserved (s.setCycles n) = reserved s := rfl

@[simp] theorem reserved_write8 (a : Word) (v : Byte) (s : State) :
    reserved (s.write8 a v) = reserved s := rfl

@[simp] theorem reserved_latchEA (x : Idx) (d : Byte) (s : State) :
    reserved (latchEA x d s) = reserved s := rfl

@[simp] theorem reserved_popState (s : State) : reserved s.popState = reserved s := rfl

@[simp] theorem reserved_ioRead (port : Word) (s : State) :
    reserved (s.ioRead port) = reserved s := rfl

@[simp] theorem reserved_ioWrite (port : Word) (v : Byte) (s : State) :
    reserved (s.ioWrite port v) = reserved s := rfl

@[simp] theorem reserved_write16 (a v : Word) (s : State) :
    reserved (s.write16 a v) = reserved s := rfl

@[simp] theorem reserved_push16 (v : Word) (s : State) : reserved (s.push16 v) = reserved s := rfl

@[simp] theorem reserved_returnFrom (s : State) : reserved (returnFrom s) = reserved s := rfl

/-- RETN's return writes IFF1 only (R433). -/
theorem reserved_returnFromNmi (s : State) :
    reserved (returnFromNmi s) = { reserved s with iff1 := s.iff2 } := rfl

/-- So does RETI's (R432): what it tells the chain is not reserved. -/
theorem reserved_returnFromInterrupt (s : State) :
    reserved (returnFromInterrupt s) = { reserved s with iff1 := s.iff2 } := rfl

@[simp] theorem reserved_blockRepeat (again : Bool) (s : State) :
    reserved (blockRepeat again s) = reserved s := by
  cases again <;> rfl

@[simp] theorem reserved_blockRepeatWZ (again : Bool) (s : State) :
    reserved (blockRepeatWZ again s) = reserved s := by
  cases again <;> rfl

/-- A conditional instruction keeps what both its branches keep. -/
theorem reserved_ite {c : Bool} {t u s : State} (ht : reserved t = reserved s)
    (hu : reserved u = reserved s) : reserved (if c then t else u) = reserved s := by
  cases c
  · exact hu
  · exact ht

@[simp] theorem reserved_ldPairMemIn (cyc : Nat) (p : PairSS) (nn : Word) (s : State) :
    reserved (ldPairMemIn cyc p nn s) = reserved s := by
  simp [ldPairMemIn]

@[simp] theorem reserved_ldMemWordIn (cyc : Nat) (nn v : Word) (s : State) :
    reserved (ldMemWordIn cyc nn v s) = reserved s := by
  simp [ldMemWordIn]

@[simp] theorem reserved_ldSpIdx (x : Idx) (s : State) :
    reserved (ldSpIdx x s) = reserved s := rfl

@[simp] theorem reserved_exSpStore (v : Word) (s : State) :
    reserved (exSpStore v s) = reserved s := by
  simp [exSpStore]

@[simp] theorem reserved_ldUnit (down : Bool) (s : State) :
    reserved (ldUnit down s) = reserved s := by
  simp [reserved, ldUnit]

@[simp] theorem reserved_cpUnit (down : Bool) (s : State) :
    reserved (cpUnit down s) = reserved s := by
  simp [reserved, cpUnit]

@[simp] theorem reserved_aluApply (op : AluOp) (v : Byte) (s : State) :
    reserved (aluApply op v s) = reserved s := by
  cases op <;> rfl

@[simp] theorem reserved_incAt (a : Word) (s : State) :
    reserved (incAt a s) = reserved s := by
  simp [incAt]

@[simp] theorem reserved_decAt (a : Word) (s : State) :
    reserved (decAt a s) = reserved s := by
  simp [decAt]

@[simp] theorem reserved_addHlPair (p : PairSS) (s : State) :
    reserved (addHlPair p s) = reserved s := rfl

@[simp] theorem reserved_adcHlPair (p : PairSS) (s : State) :
    reserved (adcHlPair p s) = reserved s := rfl

@[simp] theorem reserved_sbcHlPair (p : PairSS) (s : State) :
    reserved (sbcHlPair p s) = reserved s := rfl

@[simp] theorem reserved_rotAt (op : RotOp) (a : Word) (s : State) :
    reserved (rotAt op a s) = reserved s := by
  simp [rotAt]

@[simp] theorem reserved_modifyIdx (g : Byte → Byte) (x : Idx) (d : Byte) (s : State) :
    reserved (modifyIdx g x d s) = reserved s := by
  simp [modifyIdx]

@[simp] theorem reserved_modifyIdxCopy (g : Byte → Byte) (x : Idx) (r : Reg8) (d : Byte) (s : State) :
    reserved (modifyIdxCopy g x r d s) = reserved s := by
  simp [modifyIdxCopy]

@[simp] theorem reserved_jpCond (cc : Cond) (nn : Word) (s : State) :
    reserved (jpCond cc nn s) = reserved s := reserved_ite rfl rfl

@[simp] theorem reserved_jumpRel (e : Byte) (s : State) :
    reserved (jumpRel e s) = reserved s := rfl

@[simp] theorem reserved_jrCond (cc : JrCond) (e : Byte) (s : State) :
    reserved (jrCond cc e s) = reserved s := reserved_ite rfl rfl

@[simp] theorem reserved_jpIdx (x : Idx) (s : State) :
    reserved (jpIdx x s) = reserved s := rfl

@[simp] theorem reserved_djnz (e : Byte) (s : State) : reserved (djnz e s) = reserved s :=
  reserved_ite rfl rfl

@[simp] theorem reserved_callTo (nn : Word) (s : State) :
    reserved (callTo nn s) = reserved s := by
  simp [reserved, callTo]

@[simp] theorem reserved_callCond (cc : Cond) (nn : Word) (s : State) :
    reserved (callCond cc nn s) = reserved s := reserved_ite (reserved_callTo nn s) rfl

@[simp] theorem reserved_retCond (cc : Cond) (s : State) :
    reserved (retCond cc s) = reserved s := reserved_ite (reserved_returnFrom s) rfl

@[simp] theorem reserved_rst (t : Field3) (s : State) :
    reserved (rst t s) = reserved s := by
  simp [reserved, rst]

@[simp] theorem reserved_ioInUnit (down : Bool) (s : State) :
    reserved (ioInUnit down s) = reserved s := by
  simp [reserved, ioInUnit]

@[simp] theorem reserved_ioOutUnit (down : Bool) (s : State) :
    reserved (ioOutUnit down s) = reserved s := by
  simp [reserved, ioOutUnit]

/-! ## The fetch, the idle, the invalid opcode and the boundary -/

/-- An M1 fetch counts in R[6:0] only (R38). -/
theorem incR_getLsbD_seven (r : Byte) : (incR r).getLsbD 7 = r.getLsbD 7 := by
  simp [incR]

theorem incRTimes_getLsbD_seven (n : Nat) (r : Byte) :
    (incRTimes n r).getLsbD 7 = r.getLsbD 7 := by
  induction n generalizing r with
  | zero => rfl
  | succ n ih => rw [incRTimes, ih, incR_getLsbD_seven]

@[simp] theorem reserved_afterFetch (len : Nat) (s : State) :
    reserved (afterFetch len s) = reserved s := by
  simp only [reserved, afterFetch, incRTimes_getLsbD_seven]

@[simp] theorem reserved_haltedIdle (s : State) : reserved (haltedIdle s) = reserved s := by
  simp only [reserved, haltedIdle, incR_getLsbD_seven]

@[simp] theorem reserved_invalidOpcode (s : State) : reserved (invalidOpcode s) = reserved s := by
  simp only [reserved, invalidOpcode, incR_getLsbD_seven]

/-- Taking an interrupt clears both enables and writes nothing else that is reserved (R510). -/
theorem reserved_takeInterrupt (v : Byte) (s : State) :
    reserved (takeInterrupt v s) = { reserved s with iff1 := false, iff2 := false } := by
  have e : reserved (takeInterrupt v s) =
      { reserved s with r7 := (incR s.r).getLsbD 7, iff1 := false, iff2 := false } := rfl
  rw [e, incR_getLsbD_seven]
  rfl

/-- The boundary leaves the reserved part, or takes an interrupt and clears the enables. -/
theorem reserved_boundary {start : Word} {s t : State} (h : boundary start s = .next t) :
    reserved t = reserved s ∨ reserved t = { reserved s with iff1 := false, iff2 := false } := by
  obtain ⟨-, rfl⟩ | ⟨-, -, rfl⟩ | ⟨-, -, -, rfl⟩ | ⟨-, -, -, -, -, rfl⟩ |
    ⟨v, after, -, -, -, -, -, rfl⟩ := boundary_cases h
  · exact .inl rfl
  · exact .inl rfl
  · exact .inl rfl
  · exact .inl rfl
  · exact .inr (reserved_takeInterrupt v _)

/-! ## What each instruction does to the reserved part -/

/-- `ReservedWrite i ρ ρ'`: instruction i may take the reserved part from ρ to ρ'. Nine instructions
write some of it, each the piece that is its own; any other keeps it. -/
inductive ReservedWrite : Instr → Reserved → Reserved → Prop
  | kept (i : Instr) (ρ : Reserved) : ReservedWrite i ρ ρ
  | ld_R_A (ρ : Reserved) (b : Bool) : ReservedWrite .ld_R_A ρ { ρ with r7 := b }
  | ld_I_A (ρ : Reserved) (v : Byte) : ReservedWrite .ld_I_A ρ { ρ with i := v }
  | ex_AF_AF (ρ : Reserved) (v : Word) : ReservedWrite .ex_AF_AF ρ { ρ with af' := v }
  | exx (ρ : Reserved) (b d h w : Word) :
      ReservedWrite .exx ρ { ρ with bc' := b, de' := d, hl' := h, wz' := w }
  | im_2 (ρ : Reserved) : ReservedWrite .im_2 ρ { ρ with im := .im2 }
  | ei (ρ : Reserved) : ReservedWrite .ei ρ { ρ with iff1 := true, iff2 := true }
  | di (ρ : Reserved) : ReservedWrite .di ρ { ρ with iff1 := false, iff2 := false }
  | reti (ρ : Reserved) : ReservedWrite .reti ρ { ρ with iff1 := ρ.iff2 }
  | retn (ρ : Reserved) : ReservedWrite .retn ρ { ρ with iff1 := ρ.iff2 }

/-- An instruction whose meaning is known, and keeps the reserved part. -/
theorem ReservedWrite.kept_of_exec {i : Instr} {s u v : State} (e : exec i s = .next v)
    (k : reserved v = reserved s) (h : exec i s = .next u) :
    ReservedWrite i (reserved s) (reserved u) := by
  rw [e] at h
  cases h
  rw [k]
  exact .kept i _

open ReservedWrite (kept_of_exec) in
/-- Every instruction that completes keeps the reserved part or is one of the writers. -/
theorem exec_reservedWrite {i : Instr} {s u : State} (h : exec i s = .next u) :
    ReservedWrite i (reserved s) (reserved u) := by
  induction i using Instr.byForm with
  | ld_R_A => cases h; exact .ld_R_A _ _
  | ld_I_A => cases h; exact .ld_I_A _ _
  | ex_AF_AF => cases h; exact .ex_AF_AF _ _
  | exx => cases h; exact .exx _ _ _ _ _
  | im_2 => cases h; exact .im_2 _
  | ei => cases h; exact .ei _
  | di => cases h; exact .di _
  | reti =>
    cases h
    rw [reserved_setCycles, reserved_returnFromInterrupt]
    exact .reti _
  | retn =>
    cases h
    rw [reserved_setCycles, reserved_returnFromNmi]
    exact .retn _
  | im_0 | im_1 => cases h
  | ldRegImm r n => exact kept_of_exec (exec_ldRegImm ..) (by simp [ldRegImm]) h
  | ldRegReg dst r => exact kept_of_exec (exec_ldRegReg ..) (by simp [ldRegReg]) h
  | ldRegMem r => exact kept_of_exec (exec_ldRegMem ..) (by simp [ldRegMem]) h
  | ldMemReg r => exact kept_of_exec (exec_ldMemReg ..) (by simp [ldMemReg]) h
  | ldHalfImm x k n => exact kept_of_exec (exec_ldHalfImm ..) (by simp [ldHalfImm]) h
  | ldIdxImm x d n => exact kept_of_exec (exec_ldIdxImm ..) (by simp [ldIdxImm]) h
  | ldRegHalf r x k => exact kept_of_exec (exec_ldRegHalf ..) (by simp [ldRegHalf]) h
  | ldRegIdx r x d => exact kept_of_exec (exec_ldRegIdx ..) (by simp [ldRegIdx]) h
  | ldHalfReg x k r => exact kept_of_exec (exec_ldHalfReg ..) (by simp [ldHalfReg]) h
  | ldHalfHalf x k k' => exact kept_of_exec (exec_ldHalfHalf ..) (by simp [ldHalfHalf]) h
  | ldIdxReg x r d => exact kept_of_exec (exec_ldIdxReg ..) (by simp [ldIdxReg]) h
  | ldPairImm p nn => exact kept_of_exec (exec_ldPairImm ..) (by simp [ldPairImm]) h
  | popPair p => exact kept_of_exec (exec_popPair ..) (by simp [popPair]) h
  | pushPair p => exact kept_of_exec (exec_pushPair ..) (by simp [pushPair]) h
  | ldMemPair p nn => exact kept_of_exec (exec_ldMemPair ..) (by simp [ldMemPair]) h
  | ldPairMem p nn => exact kept_of_exec (exec_ldPairMem ..) (by simp [ldPairMem]) h
  | ldIdxImm16 x nn => exact kept_of_exec (exec_ldIdxImm16 ..) (by simp [ldIdxImm16]) h
  | ldMemIdx x nn => exact kept_of_exec (exec_ldMemIdx ..) (by simp [ldMemIdx]) h
  | ldIdxMem x nn => exact kept_of_exec (exec_ldIdxMem ..) (by simp [ldIdxMem]) h
  | popIdx x => exact kept_of_exec (exec_popIdx ..) (by simp [popIdx]) h
  | pushIdx x => exact kept_of_exec (exec_pushIdx ..) (by simp [pushIdx]) h
  | ldSpIdx x => exact kept_of_exec (exec_ldSpIdx ..) (reserved_ldSpIdx ..) h
  | exSpIdx x => exact kept_of_exec (exec_exSpIdx ..) (by simp [exSpIdx]) h
  | incReg r => exact kept_of_exec (exec_incReg ..) (by simp [incReg]) h
  | decReg r => exact kept_of_exec (exec_decReg ..) (by simp [decReg]) h
  | aluReg op r => exact kept_of_exec (exec_aluReg ..) (by simp [aluReg]) h
  | aluMem op => exact kept_of_exec (exec_aluMem ..) (by simp [aluMem]) h
  | aluImm op n => exact kept_of_exec (exec_aluImm ..) (by simp [aluImm]) h
  | incHalf x k => exact kept_of_exec (exec_incHalf ..) (by simp [incHalf]) h
  | decHalf x k => exact kept_of_exec (exec_decHalf ..) (by simp [decHalf]) h
  | incIdx x d => exact kept_of_exec (exec_incIdx ..) (by simp [incIdx]) h
  | decIdx x d => exact kept_of_exec (exec_decIdx ..) (by simp [decIdx]) h
  | aluHalf op x k => exact kept_of_exec (exec_aluHalf ..) (by simp [aluHalf]) h
  | aluIdx op x d => exact kept_of_exec (exec_aluIdx ..) (by simp [aluIdx]) h
  | incPair p => exact kept_of_exec (exec_incPair ..) (by simp [incPair]) h
  | addHlPair p => exact kept_of_exec (exec_addHlPair ..) (reserved_addHlPair ..) h
  | decPair p => exact kept_of_exec (exec_decPair ..) (by simp [decPair]) h
  | sbcHlPair p => exact kept_of_exec (exec_sbcHlPair ..) (reserved_sbcHlPair ..) h
  | adcHlPair p => exact kept_of_exec (exec_adcHlPair ..) (reserved_adcHlPair ..) h
  | addIdxPair x p => exact kept_of_exec (exec_addIdxPair ..) (by simp [addIdxPair]) h
  | incIdx16 x => exact kept_of_exec (exec_incIdx16 ..) (by simp [incIdx16]) h
  | decIdx16 x => exact kept_of_exec (exec_decIdx16 ..) (by simp [decIdx16]) h
  | rotReg op r => exact kept_of_exec (exec_rotReg ..) (by simp [rotReg]) h
  | rotMem op => exact kept_of_exec (exec_rotMem ..) (by simp [rotMem]) h
  | rotIdxCopy op x r d => exact kept_of_exec (exec_rotIdxCopy ..) (by simp [rotIdxCopy]) h
  | rotIdx op x d => exact kept_of_exec (exec_rotIdx ..) (by simp [rotIdx]) h
  | bitReg b r => exact kept_of_exec (exec_bitReg ..) (by simp [bitReg]) h
  | bitMem b => exact kept_of_exec (exec_bitMem ..) (by simp [bitMem]) h
  | resBitReg b r => exact kept_of_exec (exec_resBitReg ..) (by simp [resBitReg]) h
  | resBitMem b => exact kept_of_exec (exec_resBitMem ..) (by simp [resBitMem]) h
  | setBitReg b r => exact kept_of_exec (exec_setBitReg ..) (by simp [setBitReg]) h
  | setBitMem b => exact kept_of_exec (exec_setBitMem ..) (by simp [setBitMem]) h
  | bitIdx b x z d => exact kept_of_exec (exec_bitIdx ..) (by simp [bitIdx]) h
  | resBitIdxCopy b x r d => exact kept_of_exec (exec_resBitIdxCopy ..) (by simp [resBitIdxCopy]) h
  | resBitIdx b x d => exact kept_of_exec (exec_resBitIdx ..) (by simp [resBitIdx]) h
  | setBitIdxCopy b x r d => exact kept_of_exec (exec_setBitIdxCopy ..) (by simp [setBitIdxCopy]) h
  | setBitIdx b x d => exact kept_of_exec (exec_setBitIdx ..) (by simp [setBitIdx]) h
  | jrCond cc e => exact kept_of_exec (exec_jrCond ..) (reserved_jrCond ..) h
  | retCond cc => exact kept_of_exec (exec_retCond ..) (reserved_retCond ..) h
  | jpCond cc nn => exact kept_of_exec (exec_jpCond ..) (reserved_jpCond ..) h
  | callCond cc nn => exact kept_of_exec (exec_callCond ..) (reserved_callCond ..) h
  | rst t => exact kept_of_exec (exec_rst ..) (reserved_rst ..) h
  | jpIdx x => exact kept_of_exec (exec_jpIdx ..) (reserved_jpIdx ..) h
  | inReg r => exact kept_of_exec (exec_inReg ..) (by simp [inReg]) h
  | outReg r => exact kept_of_exec (exec_outReg ..) (by simp [outReg]) h
  | djnz_e e => exact kept_of_exec rfl (reserved_djnz e s) h
  | call_nn nn => exact kept_of_exec rfl (reserved_callTo nn s) h
  | ret => exact kept_of_exec rfl (reserved_returnFrom s) h
  | ex_mSP_HL => exact kept_of_exec rfl (reserved_exSpStore s.hl s) h
  | ldi | ldd => exact kept_of_exec rfl (by simp [ldBlock]) h
  | cpi | cpd => exact kept_of_exec rfl (by simp [cpBlock]) h
  | ini | ind => exact kept_of_exec rfl (by simp [ioInBlock]) h
  | outi | outd => exact kept_of_exec rfl (by simp [ioOutBlock]) h
  | ldir | lddr => exact kept_of_exec rfl (by simp [ldBlockRepeat]) h
  | cpir | cpdr => exact kept_of_exec rfl (by simp [cpBlockRepeat]) h
  | inir | indr => exact kept_of_exec rfl (by simp [ioInBlockRepeat]) h
  | otir | otdr => exact kept_of_exec rfl (by simp [ioOutBlockRepeat]) h
  | ld_mnn_HL nn => exact kept_of_exec rfl (reserved_ldMemWordIn 16 nn s.hl s) h
  | ld_HL_mnn nn => exact kept_of_exec rfl (reserved_ldPairMemIn 16 .hl nn s) h
  | jr_e e => exact kept_of_exec rfl (reserved_jumpRel e s) h
  | ld_mnn_A nn | ld_A_mnn nn | jp_nn nn => exact kept_of_exec rfl rfl h
  | ld_mHL_n n | out_pn_A n | in_A_pn n => exact kept_of_exec rfl rfl h
  | nop | ld_mBC_A | rlca | ld_A_mBC | rrca | ld_mDE_A | rla | ld_A_mDE | rra | daa | cpl
  | inc_mHL | dec_mHL | scf | ccf | halt | jp_mHL | ex_DE_HL | ld_SP_HL | neg
  | ld_A_I | ld_A_R | rrd | rld =>
    exact kept_of_exec rfl rfl h

/-! ## Every step -/

/-- Instruction i runs in the step from s: the core is not halted, and the bytes at pc decode to i. -/
def Runs (s : State) (i : Instr) : Prop :=
  s.halted = false ∧ ∃ rest : List Byte,
    decode [s.read8 s.pc, s.read8 (s.pc + 1), s.read8 (s.pc + 2), s.read8 (s.pc + 3)] = .ok (i, rest)

/-- A step keeps the reserved part or runs an instruction that writes it; then the boundary may clear
the enables. -/
theorem step_reserved {s t : State} (h : step s = .next t) :
    ∃ ρ : Reserved,
      (ρ = reserved s ∨ ∃ i : Instr, Runs s i ∧ ReservedWrite i (reserved s) ρ) ∧
      (reserved t = ρ ∨ reserved t = { ρ with iff1 := false, iff2 := false }) := by
  obtain ⟨-, -, ⟨-, hb⟩ | ⟨-, _, -, hb⟩ | ⟨hh, i, rest, u, hd, hx, hb⟩⟩ := step_cases h
  · have b := reserved_boundary hb
    rw [reserved_haltedIdle] at b
    exact ⟨reserved s, .inl rfl, b⟩
  · have b := reserved_boundary hb
    rw [reserved_invalidOpcode] at b
    exact ⟨reserved s, .inl rfl, b⟩
  · have w := exec_reservedWrite hx
    rw [reserved_afterFetch] at w
    exact ⟨_, .inr ⟨i, ⟨hh, rest, hd⟩, w⟩, reserved_boundary hb⟩

/-- What O59 says of a step from ρ to ρ', for the instructions that ran: each piece that differs has its
writer among them, and each enable that is set was set, or copied, by one. -/
def WrittenByOwner (runs : Instr → Prop) (ρ ρ' : Reserved) : Prop :=
  (ρ'.r7 ≠ ρ.r7 → runs .ld_R_A) ∧
  (ρ'.i ≠ ρ.i → runs .ld_I_A) ∧
  (ρ'.af' ≠ ρ.af' → runs .ex_AF_AF) ∧
  ((ρ'.bc' ≠ ρ.bc' ∨ ρ'.de' ≠ ρ.de' ∨ ρ'.hl' ≠ ρ.hl' ∨ ρ'.wz' ≠ ρ.wz') → runs .exx) ∧
  (ρ'.im ≠ ρ.im → runs .im_2 ∧ ρ'.im = .im2) ∧
  (ρ'.iff2 = true → ρ.iff2 = true ∨ runs .ei) ∧
  (ρ'.iff1 = true → ρ.iff1 = true ∨ runs .ei ∨ (ρ.iff2 = true ∧ (runs .reti ∨ runs .retn)))

theorem WrittenByOwner.refl (runs : Instr → Prop) (ρ : Reserved) : WrittenByOwner runs ρ ρ := by
  simp +contextual [WrittenByOwner]

/-- An instruction's write of the reserved part is explained by that instruction having run. -/
theorem ReservedWrite.writtenByOwner {runs : Instr → Prop} {i : Instr} {ρ ρ' : Reserved}
    (w : ReservedWrite i ρ ρ') (hi : runs i) : WrittenByOwner runs ρ ρ' := by
  cases w with
  | kept => exact .refl runs ρ
  | ld_R_A | ld_I_A | ex_AF_AF | exx | im_2 | ei | di | reti | retn =>
    simp +contextual [WrittenByOwner, hi]

/-- Clearing the enables needs no writer. -/
theorem WrittenByOwner.disable {runs : Instr → Prop} {ρ ρ' : Reserved} (h : WrittenByOwner runs ρ ρ') :
    WrittenByOwner runs ρ { ρ' with iff1 := false, iff2 := false } := by
  obtain ⟨hr, hi, haf, hx, him, -, -⟩ := h
  exact ⟨hr, hi, haf, hx, him, nofun, nofun⟩

theorem step_writtenByOwner {s t : State} (h : step s = .next t) :
    WrittenByOwner (Runs s) (reserved s) (reserved t) := by
  obtain ⟨ρ, hρ, ht⟩ := step_reserved h
  have owned : WrittenByOwner (Runs s) (reserved s) ρ := by
    obtain rfl | ⟨i, hi, w⟩ := hρ
    · exact .refl _ _
    · exact w.writtenByOwner hi
  obtain ht | ht := ht
  · exact ht ▸ owned
  · exact ht ▸ owned.disable

/-- Settles O59: every step keeps the reserved part of the state, or runs an instruction that writes its
own piece of it, and then at most clears the enables (`step_reserved`). -/
theorem onlyWriters : Obligations.OnlyWriters := fun _ _ h => step_writtenByOwner h

/-! ## The register pairs and their halves -/

theorem withHi_eq_pair (w : Word) (v : Byte) : withHi w v = pair v (lo w) :=
  word_ext (by simp) (by simp)

theorem withLo_eq_pair (w : Word) (v : Byte) : withLo w v = pair (hi w) v :=
  word_ext (by simp) (by simp)

/-- Writing one half of a pair leaves the other (R31, R34). -/
theorem half_write_pair (s : State) (v : Byte) :
    (s.setReg8 .b v).bc = pair v (s.reg8 .c) ∧ (s.setReg8 .c v).bc = pair (s.reg8 .b) v ∧
    (s.setReg8 .d v).de = pair v (s.reg8 .e) ∧ (s.setReg8 .e v).de = pair (s.reg8 .d) v ∧
    (s.setReg8 .h v).hl = pair v (s.reg8 .l) ∧ (s.setReg8 .l v).hl = pair (s.reg8 .h) v ∧
    (s.setReg8 .a v).af = pair v s.f :=
  ⟨withHi_eq_pair .., withLo_eq_pair .., withHi_eq_pair .., withLo_eq_pair .., withHi_eq_pair ..,
    withLo_eq_pair .., withHi_eq_pair ..⟩

theorem idx_setHalf_high (s : State) (x : Idx) (v : Byte) :
    (s.setHalf x .high v).idx x = pair v (s.half x .low) := by
  simp [State.setHalf, State.half, withHi_eq_pair]

theorem idx_setHalf_low (s : State) (x : Idx) (v : Byte) :
    (s.setHalf x .low v).idx x = pair (s.half x .high) v := by
  simp [State.setHalf, State.half, withLo_eq_pair]

/-! ## The register accessor (R59) -/

/-- A value of at most eight bits is its low byte. -/
theorem pair_zero_lo {v : Word} (h : v.toNat ≤ 255) : pair 0 (lo v) = v := by
  apply BitVec.eq_of_toNat_eq
  rw [pair_toNat, lo_toNat, Nat.mod_eq_of_lt (by omega)]
  simp

/-- A value of at most one bit is the number of the bit it sets. -/
theorem bitValue_ne_zero {v : Word} (h : v.toNat ≤ 1) : bitValue (v != 0) = v := by
  obtain rfl | rfl : v = 0 ∨ v = 1 := by bv_omega
  · rfl
  · rfl

/-- The mode that the accessor writes for the number of a mode has that number. -/
theorem intMode_value_ite {v : Word} (h : v.toNat ≤ 2) :
    (if v = 0 then IntMode.im0 else if v = 1 then .im1 else .im2).value = v := by
  obtain rfl | rfl | rfl : v = 0 ∨ v = 1 ∨ v = 2 := by bv_omega
  · rfl
  · rfl
  · rfl

/-- A value that the register can hold reads back (D31). -/
theorem regValue_regSet (s : State) (id : RegId) (v : Word) (fits : regFits id v = true) :
    regValue id (regSet id v s) = v := by
  cases id with
  | af | bc | de | hl | af' | bc' | de' | hl' | ix | iy | sp | pc | wz => rfl
  | a | f | b | c | d | e | h | l | ixh | ixl | iyh | iyl | i | r =>
    simpa [regValue, regSet] using pair_zero_lo (of_decide_eq_true fits)
  | im => exact intMode_value_ite (of_decide_eq_true fits)
  | iff1 | iff2 => exact bitValue_ne_zero (of_decide_eq_true fits)

/-- Settles O43: a half's write is `withHi` or `withLo` of its pair, and the accessor reads back what
fits (`regValue_regSet`). -/
theorem registerAliasing : Obligations.RegisterAliasing := by
  refine ⟨fun s v => ?_, fun s v => ?_, regValue_regSet⟩
  · obtain ⟨hb, hc, hd, he, hh, hl, ha⟩ := half_write_pair s v
    exact ⟨hb, hc, hd, he, hh, hl, ha, fun x => ⟨idx_setHalf_high s x v, idx_setHalf_low s x v⟩⟩
  · refine ⟨pair_hi_lo v, pair_hi_lo v, pair_hi_lo v, pair_hi_lo v, fun x => ?_⟩
    rw [State.half, State.half, State.idx_setIdx]
    exact pair_hi_lo v

/-! ## Reset -/

/-- A powered-off machine refuses reset (R602). -/
theorem resetCall_off (draw : ResetDraw) {s : State} (h : s.power = .off) :
    resetCall draw s = .error .poweredOff := by
  rw [resetCall, whenOn, h]

theorem resetCall_on (draw : ResetDraw) {s : State} (h : s.power = .on) :
    resetCall draw s = .ok (s.resetWith draw) := by
  rw [resetCall, whenOn, h]

/-- Settles O50: the state after reset is `State.resetWith` of the draw, field by field. -/
theorem reset : Obligations.Reset := by
  refine fun draw s => ⟨resetCall_off draw, fun on => ⟨_, resetCall_on draw on, ?_⟩⟩
  simp [State.resetWith, on]

end Sys2Proof
end

section
/-! PROOFS. The statements of 20_memory.md: every step keeps a well-formed state (O56), reads and writes
through the page map (O39), words and the stack (O40), remapping (O41), and port accesses (O38). -/

namespace Sys2Proof

open Machine

/-! ## What keeps a state well formed

Well-formedness speaks of the bus and the history ring: a register update changes neither, and the laws
of memory say what a store, a port access and the chain do to the bus. -/

/-- A state with a well-formed bus and an old history ring. -/
theorem stateWf_of {s t : State} (w : StateWf s = true) (hb : t.bus.wf = true)
    (hh : t.hist = s.hist) (hi : t.hidx = s.hidx) : StateWf t = true := by
  simp only [StateWf, historyWf, hh, hi, Bool.and_eq_true] at w ⊢
  exact ⟨hb, w.2⟩

theorem stateWf_congr {s t : State} (hb : t.bus = s.bus) (hh : t.hist = s.hist)
    (hi : t.hidx = s.hidx) : StateWf t = StateWf s := by
  simp only [StateWf, historyWf, hb, hh, hi]

/-! Registers only. -/

@[simp] theorem stateWf_setFlags (f : Flags) (s : State) : StateWf (s.setFlags f) = StateWf s :=
  stateWf_congr rfl rfl rfl

@[simp] theorem stateWf_setAF (v : Byte × Flags) (s : State) : StateWf (s.setAF v) = StateWf s :=
  stateWf_congr rfl rfl rfl

@[simp] theorem stateWf_setA (v : Byte) (s : State) : StateWf (s.setA v) = StateWf s :=
  stateWf_congr rfl rfl rfl

@[simp] theorem stateWf_setWZ (v : Word) (s : State) : StateWf (s.setWZ v) = StateWf s :=
  stateWf_congr rfl rfl rfl

@[simp] theorem stateWf_setCycles (n : Nat) (s : State) : StateWf (s.setCycles n) = StateWf s :=
  stateWf_congr rfl rfl rfl

@[simp] theorem stateWf_setReg8 (r : Reg8) (v : Byte) (s : State) :
    StateWf (s.setReg8 r v) = StateWf s :=
  stateWf_congr (by simp) (by simp) (by simp)

@[simp] theorem stateWf_setPairSS (p : PairSS) (v : Word) (s : State) :
    StateWf (s.setPairSS p v) = StateWf s :=
  stateWf_congr (by simp) (by simp) (by simp)

@[simp] theorem stateWf_setPairQQ (p : PairQQ) (v : Word) (s : State) :
    StateWf (s.setPairQQ p v) = StateWf s :=
  stateWf_congr (by simp) (by simp) (by simp)

@[simp] theorem stateWf_setIdx (x : Idx) (v : Word) (s : State) :
    StateWf (s.setIdx x v) = StateWf s :=
  stateWf_congr (by simp) (by simp) (by simp)

@[simp] theorem stateWf_setHalf (x : Idx) (k : Half) (v : Byte) (s : State) :
    StateWf (s.setHalf x k v) = StateWf s :=
  stateWf_congr (by simp) (by simp) (by simp)

@[simp] theorem stateWf_latchEA (x : Idx) (d : Byte) (s : State) :
    StateWf (latchEA x d s) = StateWf s :=
  stateWf_congr rfl rfl rfl

@[simp] theorem stateWf_popState (s : State) : StateWf s.popState = StateWf s :=
  stateWf_congr rfl rfl rfl

@[simp] theorem stateWf_returnFrom (s : State) : StateWf (returnFrom s) = StateWf s :=
  stateWf_congr rfl rfl rfl

@[simp] theorem stateWf_returnFromNmi (s : State) : StateWf (returnFromNmi s) = StateWf s :=
  stateWf_congr rfl rfl rfl

@[simp] theorem stateWf_blockRepeat (again : Bool) (s : State) :
    StateWf (blockRepeat again s) = StateWf s := by
  cases again <;> exact stateWf_congr rfl rfl rfl

@[simp] theorem stateWf_blockRepeatWZ (again : Bool) (s : State) :
    StateWf (blockRepeatWZ again s) = StateWf s := by
  cases again <;> exact stateWf_congr rfl rfl rfl

@[simp] theorem stateWf_aluApply (op : AluOp) (v : Byte) (s : State) :
    StateWf (aluApply op v s) = StateWf s := by
  cases op <;> exact stateWf_congr rfl rfl rfl

@[simp] theorem stateWf_cpUnit (down : Bool) (s : State) : StateWf (cpUnit down s) = StateWf s :=
  stateWf_congr rfl rfl rfl

@[simp] theorem stateWf_addHlPair (p : PairSS) (s : State) : StateWf (addHlPair p s) = StateWf s :=
  stateWf_congr rfl rfl rfl

@[simp] theorem stateWf_adcHlPair (p : PairSS) (s : State) : StateWf (adcHlPair p s) = StateWf s :=
  stateWf_congr rfl rfl rfl

@[simp] theorem stateWf_sbcHlPair (p : PairSS) (s : State) : StateWf (sbcHlPair p s) = StateWf s :=
  stateWf_congr rfl rfl rfl

@[simp] theorem stateWf_ldSpIdx (x : Idx) (s : State) : StateWf (ldSpIdx x s) = StateWf s :=
  stateWf_congr rfl rfl rfl

@[simp] theorem stateWf_jpIdx (x : Idx) (s : State) : StateWf (jpIdx x s) = StateWf s :=
  stateWf_congr rfl rfl rfl

@[simp] theorem stateWf_jpCond (cc : Cond) (nn : Word) (s : State) :
    StateWf (jpCond cc nn s) = StateWf s := by
  unfold jpCond
  split <;> exact stateWf_congr rfl rfl rfl

@[simp] theorem stateWf_jrCond (cc : JrCond) (e : Byte) (s : State) :
    StateWf (jrCond cc e s) = StateWf s := by
  unfold jrCond
  split <;> exact stateWf_congr rfl rfl rfl

@[simp] theorem stateWf_djnz (e : Byte) (s : State) : StateWf (djnz e s) = StateWf s := by
  simp only [djnz]
  split <;> exact stateWf_congr rfl rfl rfl

@[simp] theorem stateWf_retCond (cc : Cond) (s : State) : StateWf (retCond cc s) = StateWf s := by
  unfold retCond
  split <;> simp

@[simp] theorem stateWf_afterFetch (len : Nat) (s : State) :
    StateWf (afterFetch len s) = StateWf s :=
  stateWf_congr rfl rfl rfl

@[simp] theorem stateWf_haltedIdle (s : State) : StateWf (haltedIdle s) = StateWf s :=
  stateWf_congr rfl rfl rfl

@[simp] theorem stateWf_invalidOpcode (s : State) : StateWf (invalidOpcode s) = StateWf s :=
  stateWf_congr rfl rfl rfl

/-! Memory, the ports, the chain and the history. -/

section
variable {s : State} (w : StateWf s = true)
include w

@[simp] theorem stateWf_write8 (a : Word) (v : Byte) : StateWf (s.write8 a v) = true :=
  stateWf_of w (Bus.wf_write8 a v (bus_wf w)) rfl rfl

@[simp] theorem stateWf_write16 (a v : Word) : StateWf (s.write16 a v) = true :=
  stateWf_of w (State.wf_write16 a v (bus_wf w)) rfl rfl

@[simp] theorem stateWf_push16 (v : Word) : StateWf (s.push16 v) = true :=
  stateWf_of w (State.wf_push16 v (bus_wf w)) rfl rfl

@[simp] theorem stateWf_ioAccess (ev : IoEvent) : StateWf (s.ioAccess ev) = true :=
  stateWf_of w (State.wf_ioAccess ev (bus_wf w)) rfl rfl

@[simp] theorem stateWf_ioRead (port : Word) : StateWf (s.ioRead port) = true :=
  stateWf_ioAccess w _

@[simp] theorem stateWf_ioWrite (port : Word) (v : Byte) : StateWf (s.ioWrite port v) = true :=
  stateWf_ioAccess w _

@[simp] theorem stateWf_exSpStore (v : Word) : StateWf (exSpStore v s) = true := by
  simp [exSpStore, w]

@[simp] theorem stateWf_ldUnit (down : Bool) : StateWf (ldUnit down s) = true :=
  stateWf_of w (Bus.wf_write8 s.de (s.read8 s.hl) (bus_wf w)) rfl rfl

@[simp] theorem stateWf_ioInUnit (down : Bool) : StateWf (ioInUnit down s) = true :=
  stateWf_of w (bus_wf (stateWf_write8 (stateWf_ioRead w s.bc) s.hl s.ioReadValue)) rfl rfl

@[simp] theorem stateWf_ioOutUnit (down : Bool) : StateWf (ioOutUnit down s) = true :=
  stateWf_of w (State.wf_ioAccess (.write (s.setReg8 .b (s.reg8 .b - 1)).bc (s.read8 s.hl)) (bus_wf w))
    rfl rfl

@[simp] theorem stateWf_callTo (nn : Word) : StateWf (callTo nn s) = true :=
  stateWf_of w (bus_wf (stateWf_push16 w s.pc)) rfl rfl

@[simp] theorem stateWf_callCond (cc : Cond) (nn : Word) : StateWf (callCond cc nn s) = true := by
  unfold callCond
  split
  · exact stateWf_callTo w nn
  · exact stateWf_of w (bus_wf w) rfl rfl

@[simp] theorem stateWf_rst (t : Field3) : StateWf (rst t s) = true :=
  stateWf_of w (bus_wf (stateWf_push16 w s.pc)) rfl rfl

@[simp] theorem stateWf_returnFromInterrupt : StateWf (returnFromInterrupt s) = true :=
  stateWf_of w (Bus.wf_chainReti (bus_wf w)) rfl rfl

@[simp] theorem stateWf_takeInterrupt (v : Byte) : StateWf (takeInterrupt v s) = true :=
  stateWf_of w (by simpa using bus_wf (stateWf_push16 w s.pc)) rfl rfl

/-- What the boundary does to the chain and the pending flag leaves the memory alone. -/
theorem stateWf_setChain (pending : Bool) (chain : List Node) :
    StateWf { s with bus := { s.bus with intPending := pending, chain := chain } } = true :=
  stateWf_of w (Bus.wf_of (bus_wf w) rfl rfl ((Bus.wf_iff _).mp (bus_wf w)).2.2) rfl rfl

/-- The ring keeps its depth, and its index goes on modulo the depth (R550). -/
theorem stateWf_histWrite : StateWf (histWrite s) = true := by
  simp only [StateWf, historyWf, histWrite, List.length_set, Bool.and_eq_true,
    decide_eq_true_eq] at w ⊢
  obtain ⟨hb, hd, hi⟩ := w
  exact ⟨hb, hd, Nat.mod_lt _ (Nat.zero_lt_of_lt hi)⟩

end

/-! ## Every step keeps a well-formed state -/

/-- Every instruction that completes keeps a well-formed state: it writes registers, or it also stores
through the page map, or it also accesses a port, or it tells the chain of a return. -/
theorem exec_keeps_wf {i : Instr} {s u : State} (w : StateWf s = true) (h : exec i s = .next u) :
    StateWf u = true := by
  induction i using Instr.byForm with
  | im_0 | im_1 => cases h
  -- Registers only.
  | nop | rlca | ex_AF_AF | ld_A_mBC | rrca | rla | ld_A_mDE | rra | daa | cpl | scf | ccf | halt
  | exx | jp_mHL | ex_DE_HL | di | ld_SP_HL | ei | neg | ld_I_A | ld_R_A | ld_A_I | im_2 | ld_A_R
  | jr_e | jp_nn | ld_A_mnn | ld_HL_mnn =>
    cases h
    exact stateWf_of w (bus_wf w) rfl rfl
  | ret | retn | djnz_e =>
    cases h
    simpa using w
  | cpi | cpd | cpir | cpdr =>
    cases h
    simpa [cpBlock, cpBlockRepeat] using w
  | ldRegImm | ldRegReg | ldRegMem | ldHalfImm | ldRegHalf | ldRegIdx | ldHalfReg | ldHalfHalf
  | ldPairImm | ldPairMem | ldIdxImm16 | ldIdxMem | ldSpIdx | popPair | popIdx =>
    simp only [exec_ldRegImm, exec_ldRegReg, exec_ldRegMem, exec_ldHalfImm, exec_ldRegHalf,
      exec_ldRegIdx, exec_ldHalfReg, exec_ldHalfHalf, exec_ldPairImm, exec_ldPairMem,
      exec_ldIdxImm16, exec_ldIdxMem, exec_ldSpIdx, exec_popPair, exec_popIdx] at h
    cases h
    simpa [ldRegImm, ldRegReg, ldRegMem, ldHalfImm, ldRegHalf, ldRegIdx, ldHalfReg, ldHalfHalf,
      ldPairImm, ldPairMem, ldPairMemIn, ldIdxImm16, ldIdxMem, popPair, popIdx] using w
  | incReg | decReg | aluReg | aluMem | aluImm | incHalf | decHalf | aluHalf | aluIdx | incPair
  | decPair | addHlPair | adcHlPair | sbcHlPair | addIdxPair | incIdx16 | decIdx16 | rotReg =>
    simp only [exec_incReg, exec_decReg, exec_aluReg, exec_aluMem, exec_aluImm, exec_incHalf,
      exec_decHalf, exec_aluHalf, exec_aluIdx, exec_incPair, exec_decPair, exec_addHlPair,
      exec_adcHlPair, exec_sbcHlPair, exec_addIdxPair, exec_incIdx16, exec_decIdx16,
      exec_rotReg] at h
    cases h
    simpa [incReg, decReg, aluReg, aluMem, aluImm, incHalf, decHalf, aluHalf, aluIdx, incPair,
      decPair, addIdxPair, incIdx16, decIdx16, rotReg] using w
  | bitReg | bitMem | bitIdx | resBitReg | setBitReg =>
    simp only [exec_bitReg, exec_bitMem, exec_bitIdx, exec_resBitReg, exec_setBitReg] at h
    cases h
    simpa [bitReg, bitMem, bitIdx, resBitReg, setBitReg] using w
  | jrCond | retCond | jpCond | jpIdx =>
    simp only [exec_jrCond, exec_retCond, exec_jpCond, exec_jpIdx] at h
    cases h
    simpa using w
  -- A byte through the page map.
  | ld_mBC_A | ld_mDE_A | ld_mnn_A | ld_mHL_n | inc_mHL | dec_mHL | rrd | rld =>
    cases h
    simp [ldMemPairA, incAt, decAt, digitRotate, w]
  | ldi | ldd | ldir | lddr =>
    cases h
    simp [ldBlock, ldBlockRepeat, w]
  | ldMemReg | ldIdxImm | ldIdxReg =>
    simp only [exec_ldMemReg, exec_ldIdxImm, exec_ldIdxReg] at h
    cases h
    simp [ldMemReg, ldIdxImm, ldIdxReg, w]
  | incIdx | decIdx | rotMem | rotIdx | rotIdxCopy =>
    simp only [exec_incIdx, exec_decIdx, exec_rotMem, exec_rotIdx, exec_rotIdxCopy] at h
    cases h
    simp [incIdx, decIdx, incAt, decAt, rotMem, rotIdx, rotIdxCopy, rotAt, w]
  | resBitMem | setBitMem | resBitIdx | setBitIdx | resBitIdxCopy | setBitIdxCopy =>
    simp only [exec_resBitMem, exec_setBitMem, exec_resBitIdx, exec_setBitIdx, exec_resBitIdxCopy,
      exec_setBitIdxCopy] at h
    cases h
    simp [resBitMem, setBitMem, resBitIdx, setBitIdx, resBitIdxCopy, setBitIdxCopy, modifyIdx,
      modifyIdxCopy, w]
  -- A word through the page map, pushes among them.
  | ex_mSP_HL =>
    cases h
    exact stateWf_of w (bus_wf (stateWf_exSpStore w s.hl)) rfl rfl
  | ld_mnn_HL | call_nn =>
    cases h
    simp [ldMemWordIn, w]
  | pushPair | pushIdx | ldMemPair | ldMemIdx | exSpIdx | callCond | rst =>
    simp only [exec_pushPair, exec_pushIdx, exec_ldMemPair, exec_ldMemIdx, exec_exSpIdx,
      exec_callCond, exec_rst] at h
    cases h
    simp [pushPair, pushIdx, ldMemPair, ldMemIdx, ldMemWordIn, exSpIdx, w]
  -- A port access.
  | out_pn_A | in_A_pn =>
    cases h
    simp [outImmA, inAImm, w]
  | ini | ind | inir | indr | outi | outd | otir | otdr =>
    cases h
    simp [ioInBlock, ioInBlockRepeat, ioOutBlock, ioOutBlockRepeat, w]
  | inReg | outReg =>
    simp only [exec_inReg, exec_outReg] at h
    cases h
    simp [inReg, outReg, w]
  -- The chain.
  | reti =>
    cases h
    simp [w]

/-- So does the boundary: it changes no memory but by taking an interrupt, which pushes pc. -/
theorem boundary_keeps_wf {start : Word} {s t : State} (w : StateWf s = true)
    (h : boundary start s = .next t) : StateWf t = true := by
  obtain ⟨-, rfl⟩ | ⟨-, -, rfl⟩ | ⟨-, -, -, rfl⟩ | ⟨-, -, -, -, -, rfl⟩ |
    ⟨v, after, -, -, -, -, -, rfl⟩ := boundary_cases h
  · exact stateWf_of w (bus_wf w) rfl rfl
  · exact w
  · exact stateWf_setChain w _ _
  · exact stateWf_setChain w _ _
  · exact stateWf_takeInterrupt (stateWf_setChain w _ _) v

theorem step_keeps_wf {s t : State} (w : StateWf s = true) (h : step s = .next t) :
    StateWf t = true := by
  have cleared : StateWf { s with inv := false } = true := stateWf_of w (bus_wf w) rfl rfl
  obtain ⟨-, -, ⟨-, hb⟩ | ⟨-, _, -, hb⟩ | ⟨-, i, rest, u, -, hx, hb⟩⟩ := step_cases h
  · refine boundary_keeps_wf ?_ hb
    rwa [stateWf_haltedIdle]
  · refine boundary_keeps_wf ?_ hb
    rw [stateWf_invalidOpcode]
    exact stateWf_histWrite cleared
  · refine boundary_keeps_wf (exec_keeps_wf ?_ hx) hb
    rw [stateWf_afterFetch]
    exact stateWf_histWrite cleared

/-- Settles O56: the history write, the fetch, each instruction (`exec_keeps_wf`) and the boundary keep
the state well formed. -/
theorem stepKeepsWellFormed : Obligations.StepKeepsWellFormed := fun _ _ => step_keeps_wf

/-! ## A byte through the page map -/

theorem toNat_shiftRight_ten (a : Word) : (a >>> 10).toNat = pageOf a := by
  simp [pageOf, Config.pageSize, Nat.shiftRight_eq_div_pow]

theorem toNat_and_offset (a : Word) : (a &&& 0x3FF).toNat = offsetOf a := by
  rw [BitVec.toNat_and]
  exact Nat.and_two_pow_sub_one_eq_mod a.toNat 10

theorem locate_unmapped {b : Bus} {a : Word} (h : b.pageSource (pageOf a) = .unmapped) :
    b.locate a = none := by
  rw [Bus.locate, h]

theorem locate_mapped {b : Bus} {a : Word} {n base : Nat} {readonly : Bool}
    (h : b.pageSource (pageOf a) = .mapped n base readonly) :
    b.locate a = some ⟨n, base + offsetOf a, readonly⟩ := by
  rw [Bus.locate, h]

theorem read8_of_none {s : State} {a : Word} (h : s.bus.locate a = none) :
    s.read8 a = Config.unmappedFill := by
  rw [State.read8, Bus.read8, h]

theorem read8_of_some {s : State} {a : Word} {l : Location} (h : s.bus.locate a = some l) :
    s.read8 a = storesRead s.bus.stores l.store l.index := by
  rw [State.read8, Bus.read8, h]

/-- A write that no writable page takes is dropped (R84). -/
theorem write8_dropped {s : State} {a : Word} (h : writableAt s.bus a = false) (v : Byte) :
    s.write8 a v = s := by
  have e : s.bus.write8 a v = s.bus := by
    unfold writableAt at h
    unfold Bus.write8
    split
    · rfl
    · next l hl =>
      rw [hl] at h
      exact if_pos (by simpa using h)
  rw [State.write8, e]

/-- A write to a writable page reads back (R83, R84). -/
theorem read8_write8_same {s : State} {a : Word} (w : StateWf s = true)
    (h : writableAt s.bus a = true) (v : Byte) : (s.write8 a v).read8 a = v := by
  rw [State.read8, State.write8_bus, Bus.read8_write8 a a v (bus_wf w)]
  unfold writableAt at h
  split at h
  · next l hl => simp [hl, h]
  · cases h

/-- Settles O39: the page's descriptor says where the address leads, and with it what a read returns
and whether a write is taken. -/
theorem memoryAccess : Obligations.MemoryAccess := by
  intro s a
  simp only [toNat_shiftRight_ten, toNat_and_offset]
  constructor
  · intro page
    have loc := locate_unmapped page
    exact ⟨read8_of_none loc, write8_dropped (by rw [writableAt, loc])⟩
  · intro n base readonly page
    have loc := locate_mapped page
    have writable : writableAt s.bus a = !readonly := by rw [writableAt, loc]
    refine ⟨read8_of_some loc, ?_, ?_⟩
    · rintro rfl
      exact write8_dropped writable
    · rintro rfl w v
      exact ⟨read8_write8_same w writable v, stores_write8 (bus_wf w) rfl, frame_write8 s a v⟩

/-! ## Words and the stack -/

theorem frame_write16 (s : State) (a v : Word) : SameExcept [.memory] s (s.write16 a v) :=
  ((SameExcept.self s).write8 (by simp)).write8 (by simp)

/-- What a word write stores: the low byte, then the high byte (R91). -/
theorem stores_write16 {s : State} (w : StateWf s = true) (a v : Word) :
    Stores [(a + 1, hi v), (a, lo v)] s (s.write16 a v) :=
  stores_two (bus_wf w) (State.write16_bus s a v)

/-- Settles O40: two byte writes in a row, in the order of R91 and of R95. -/
theorem wordsAndStack : Obligations.WordsAndStack :=
  ⟨fun _ _ => rfl,
    fun s => ⟨rfl, State.popState_sp s, frame_popState s⟩,
    fun s a v w => ⟨stores_write16 w a v, frame_write16 s a v⟩,
    fun s v w => ⟨stores_push16 (bus_wf w) rfl, State.push16_sp s v, frame_push16 s v⟩⟩

/-! ## Remapping -/

theorem sourceFits_iff (b : Bus) (count : Nat) (source : PageSource) :
    b.sourceFits count source = true ↔
      ∀ (n base : Nat) (readonly : Bool), source = .mapped n base readonly →
        ∃ st : Store, b.stores[n]? = some st ∧ base + count * Config.pageSize ≤ st.size := by
  cases source with
  | unmapped => simp [Bus.sourceFits]
  | mapped n base readonly =>
    cases e : b.stores[n]? <;> simp [Bus.sourceFits, e]

/-- Every page of a repointed map (R85). -/
theorem pageSource_repoint {b : Bus} {first count : Nat} (source : PageSource)
    (w : b.map.length = Config.nPages) (h : first + count ≤ Config.nPages) (p : Nat) :
    Bus.pageSource { b with map := Bus.repoint first count source 0 b.map } p =
      if first ≤ p ∧ p < first + count then Bus.sourceAt source (p - first) else b.pageSource p := by
  simp only [Bus.pageSource, Bus.getElem?_repoint, Nat.zero_add]
  cases e : b.map[p]? with
  | some m => simp
  | none =>
    have : b.map.length ≤ p := List.getElem?_eq_none_iff.mp e
    rw [if_neg (by omega)]
    simp

/-- A change of the page map only. -/
theorem frame_setMap (s : State) (map : List PageSource) :
    SameExcept [.map] s { s with bus := { s.bus with map := map } } := by
  intro p hp
  cases p with
  | map => exact absurd (by decide) hp
  | hist | machine => exact ⟨rfl, rfl⟩
  | io => exact ⟨rfl, rfl, rfl⟩
  | _ => rfl

theorem remap_on {s : State} (on : s.power = .on) (first count : Nat) (source : PageSource) :
    remap first count source s =
      if first + count ≤ Config.nPages ∧ s.bus.sourceFits count source = true then
        .ok { s with bus := { s.bus with map := Bus.repoint first count source 0 s.bus.map } }
      else .error .badRemap := by
  by_cases fits : first + count ≤ Config.nPages ∧ s.bus.sourceFits count source = true
  · simp [remap, whenOn, on, Bus.remap, fits]
  · simp [remap, whenOn, on, Bus.remap, fits]

/-- Settles O41: the two preconditions are those of the model (`sourceFits_iff`), and the map is
repointed page by page. -/
theorem remap : Obligations.Remap := by
  intro s first count source w on
  have pages : s.bus.map.length = Config.nPages := ((Bus.wf_iff _).mp (bus_wf w)).1
  rw [remap_on on]
  constructor
  · rintro ⟨inMap, inStore⟩
    rw [if_pos ⟨inMap, (sourceFits_iff _ _ _).mpr inStore⟩]
    refine ⟨_, rfl, frame_setMap s _, fun p => ?_⟩
    rw [pageSource_repoint source pages inMap]
    cases source <;> rfl
  · intro broken
    exact if_neg fun fits => broken ⟨fits.1, (sourceFits_iff _ _ _).mp fits.2⟩

/-! ## Port accesses -/

/-- With a script the answer is its first reply. -/
theorem nextReply_cons {s : State} {rep : HandlerReply} {rest : List HandlerReply}
    (h : s.ioScript = rep :: rest) : s.nextReply = rep := by
  rw [State.nextReply, h]

/-- With no script the answer is the free value of this access. -/
theorem nextReply_nil {s : State} (h : s.ioScript = []) :
    s.nextReply = ⟨Config.portRead s.ioCount, Config.handlerActions s.ioCount⟩ := by
  rw [State.nextReply, h]

/-- Settles O38: the answer to the access is `nextReply`, and the frame is `frame_ioAccess`. -/
theorem portAccess : Obligations.PortAccess := by
  refine ⟨fun port s => ⟨rfl, frame_ioAccess s _⟩, fun port v s => ⟨rfl, frame_ioAccess s _⟩,
    fun ev rep rest s script => ?_, fun ev s script => ?_⟩
  · simp [State.ioReadValue, nextReply_cons script, script]
  · simp [State.ioReadValue, nextReply_nil script]

end Sys2Proof
end

section
/-! PROOFS. The statements of 30_encoding.md: decoding an encoding gives it back (O54), the decoder accepts
the valid byte sequences and no others (O55), and what the fetch and the step make of them (O51, O52,
O53). -/

namespace Sys2Proof

open Machine

/-! ## Decoding an encoding -/

/-- A word read back from its two bytes in address order. -/
theorem withWord_lo_hi (k : Word → Instr) (nn : Word) (rest : List Byte) :
    withWord k (lo nn :: hi nn :: rest) = .ok (k nn, rest) := by
  rw [withWord, pair_hi_lo]

/-! The four largest groups of the DDCB and FDCB layer (R128). -/

theorem decode_encode_rotIdxCopy (op : RotOp) (x : Idx) (r : Reg8) (d : Byte) (rest : List Byte) :
    decode (encode (.rotIdxCopy op x r d) ++ rest) = .ok (.rotIdxCopy op x r d, rest) := by
  cases x <;> cases op <;> cases r <;> rfl

theorem decode_encode_bitIdx (b : Field3) (x : Idx) (z : Field3) (d : Byte) (rest : List Byte) :
    decode (encode (.bitIdx b x z d) ++ rest) = .ok (.bitIdx b x z d, rest) := by
  cases x <;> cases b <;> cases z <;> rfl

theorem decode_encode_resBitIdxCopy (b : Field3) (x : Idx) (r : Reg8) (d : Byte) (rest : List Byte) :
    decode (encode (.resBitIdxCopy b x r d) ++ rest) = .ok (.resBitIdxCopy b x r d, rest) := by
  cases x <;> cases b <;> cases r <;> rfl

theorem decode_encode_setBitIdxCopy (b : Field3) (x : Idx) (r : Reg8) (d : Byte) (rest : List Byte) :
    decode (encode (.setBitIdxCopy b x r d) ++ rest) = .ok (.setBitIdxCopy b x r d, rest) := by
  cases x <;> cases b <;> cases r <;> rfl

theorem decode_encode (i : Instr) (rest : List Byte) : decode (encode i ++ rest) = .ok (i, rest) := by
  induction i using Instr.byForm with
  -- A word operand.
  | ldPairImm p nn => cases p <;> exact withWord_lo_hi (Instr.ldPairImm _) nn rest
  | ldMemPair p nn => cases p <;> exact withWord_lo_hi (Instr.ldMemPair _) nn rest
  | ldPairMem p nn => cases p <;> exact withWord_lo_hi (Instr.ldPairMem _) nn rest
  | ldIdxImm16 x nn => cases x <;> exact withWord_lo_hi (Instr.ldIdxImm16 _) nn rest
  | ldMemIdx x nn => cases x <;> exact withWord_lo_hi (Instr.ldMemIdx _) nn rest
  | ldIdxMem x nn => cases x <;> exact withWord_lo_hi (Instr.ldIdxMem _) nn rest
  | jpCond cc nn => cases cc <;> exact withWord_lo_hi (Instr.jpCond _) nn rest
  | callCond cc nn => cases cc <;> exact withWord_lo_hi (Instr.callCond _) nn rest
  | ld_mnn_HL nn => exact withWord_lo_hi .ld_mnn_HL nn rest
  | ld_HL_mnn nn => exact withWord_lo_hi .ld_HL_mnn nn rest
  | ld_mnn_A nn => exact withWord_lo_hi .ld_mnn_A nn rest
  | ld_A_mnn nn => exact withWord_lo_hi .ld_A_mnn nn rest
  | jp_nn nn => exact withWord_lo_hi .jp_nn nn rest
  | call_nn nn => exact withWord_lo_hi .call_nn nn rest
  -- Fields of the opcode, and bytes after it that the decoder hands on as they are.
  | ldRegReg dst r => cases dst <;> cases r <;> rfl
  | ldRegImm r | ldRegMem r | ldMemReg r | incReg r | decReg r | rotMem r | inReg r | outReg r =>
    cases r <;> rfl
  | aluReg op r | rotReg op r => cases op <;> cases r <;> rfl
  | aluMem op | aluImm op => cases op <;> rfl
  | incPair p | decPair p | addHlPair p | adcHlPair p | sbcHlPair p | popPair p | pushPair p =>
    cases p <;> rfl
  | bitReg b r | resBitReg b r | setBitReg b r => cases b <;> cases r <;> rfl
  | bitMem b | resBitMem b | setBitMem b | rst b => cases b <;> rfl
  | jrCond cc | retCond cc => cases cc <;> rfl
  -- The same after DD or FD.
  | ldIdxImm x | incIdx x | decIdx x | incIdx16 x | decIdx16 x | popIdx x | pushIdx x | ldSpIdx x
  | exSpIdx x | jpIdx x =>
    cases x <;> rfl
  | ldHalfImm x k | incHalf x k | decHalf x k => cases x <;> cases k <;> rfl
  | ldHalfHalf x k k' => cases x <;> cases k <;> cases k' <;> rfl
  | ldRegHalf r x k | ldHalfReg x k r => cases x <;> cases k <;> cases r <;> rfl
  | ldRegIdx r x | ldIdxReg x r => cases x <;> cases r <;> rfl
  | addIdxPair x p => cases x <;> cases p <;> rfl
  | aluHalf op x k => cases x <;> cases op <;> cases k <;> rfl
  | aluIdx op x | rotIdx op x => cases x <;> cases op <;> rfl
  | resBitIdx b x | setBitIdx b x => cases x <;> cases b <;> rfl
  | rotIdxCopy op x r d => exact decode_encode_rotIdxCopy op x r d rest
  | bitIdx b x z d => exact decode_encode_bitIdx b x z d rest
  | resBitIdxCopy b x r d => exact decode_encode_resBitIdxCopy b x r d rest
  | setBitIdxCopy b x r d => exact decode_encode_setBitIdxCopy b x r d rest
  -- No field.
  | _ => rfl

/-- Settles O54: each group of instructions, over its operand fields. -/
theorem decodeEncode : Obligations.DecodeEncode := decode_encode

/-! ## A byte as its fields -/

/-- The opcode byte with the fields x, y and z of R121. -/
def opByte (x : Nat) (y z : Field3) : Byte := BitVec.ofNat 8 (64 * x + 8 * y.value + z.value)

theorem value_fieldOf {k : Nat} (h : k < 8) : (fieldOf k).value = k := by
  match k with
  | 0 | 1 | 2 | 3 | 4 | 5 | 6 | 7 => rfl
  | k + 8 => omega

/-- A byte is the opcode byte of its own fields. -/
theorem opByte_fields (o : Byte) : opByte (xField o) (yField o) (zField o) = o := by
  apply BitVec.eq_of_toNat_eq
  have := o.isLt
  rw [opByte, xField, yField, zField, value_fieldOf (by omega), value_fieldOf (by omega),
    BitVec.toNat_ofNat]
  omega

theorem xField_lt (o : Byte) : xField o < 4 := by
  have := o.isLt
  unfold xField
  omega

/-- To prove a property of every byte, prove it of the opcode bytes of each value of x. -/
theorem byFields {P : Byte → Prop} (x0 : ∀ y z, P (opByte 0 y z)) (x1 : ∀ y z, P (opByte 1 y z))
    (x2 : ∀ y z, P (opByte 2 y z)) (x3 : ∀ y z, P (opByte 3 y z)) (o : Byte) : P o := by
  rw [← opByte_fields o]
  obtain h | h | h | h : xField o = 0 ∨ xField o = 1 ∨ xField o = 2 ∨ xField o = 3 := by
    have := xField_lt o
    omega
  · exact h ▸ x0 _ _
  · exact h ▸ x1 _ _
  · exact h ▸ x2 _ _
  · exact h ▸ x3 _ _

/-! ## What the decoder answers

Each part of the decoder answers for the bytes read so far and those it is given: an instruction whose
encoding they begin with, or an error where they begin with no whole valid instruction. -/

/-- The decoder's answer is right for these bytes. -/
inductive Answers (bytes : List Byte) : Decoded → Prop
  | ok {i : Instr} {rest : List Byte} (eq : bytes = encode i ++ rest)
      (valid : wellFormedBytes bytes = true) : Answers bytes (.ok (i, rest))
  | error {e : Reject} (invalid : wellFormedBytes bytes = false) : Answers bytes (.error e)

/-- These opcode bytes are valid with k operand bytes after them (R133). -/
def TakesOperands (opcode : List Byte) (k : Nat) : Prop :=
  ∀ t : List Byte, wellFormedBytes (opcode ++ t) = decide (opcode.length + k ≤ (opcode ++ t).length)

theorem TakesOperands.wellFormedBytes_append {opcode : List Byte} {k : Nat} (h : TakesOperands opcode k)
    (t : List Byte) : wellFormedBytes (opcode ++ t) = decide (k ≤ t.length) := by
  rw [h t]
  simp

namespace Answers

variable {opcode : List Byte}

/-! Which encoding the answer has, and how many operand bytes it takes, is computed from the opcode where
these are used: the default proofs are `rfl`. -/

theorem plain {i : Instr} (rest : List Byte) (enc : encode i = opcode := by rfl)
    (takes : TakesOperands opcode 0 := by intro; rfl) :
    Answers (opcode ++ rest) (plain i rest) :=
  .ok (by rw [enc]) (by simp [takes.wellFormedBytes_append])

theorem withByte {k : Byte → Instr} (rest : List Byte)
    (enc : ∀ n, encode (k n) = opcode ++ [n] := by intro; rfl)
    (takes : TakesOperands opcode 1 := by intro; rfl) :
    Answers (opcode ++ rest) (withByte k rest) := by
  match rest with
  | [] => exact .error (takes.wellFormedBytes_append [])
  | n :: t => exact .ok (by simp [enc]) (by simp [takes.wellFormedBytes_append])

theorem withTwoBytes {k : Byte → Byte → Instr} (rest : List Byte)
    (enc : ∀ v n, encode (k v n) = opcode ++ [v, n] := by intros; rfl)
    (takes : TakesOperands opcode 2 := by intro; rfl) :
    Answers (opcode ++ rest) (withTwoBytes k rest) := by
  match rest with
  | [] | [_] => exact .error (takes.wellFormedBytes_append _)
  | v :: n :: t => exact .ok (by simp [enc]) (by simp [takes.wellFormedBytes_append])

theorem withWord {k : Word → Instr} (rest : List Byte)
    (enc : ∀ nn, encode (k nn) = opcode ++ [lo nn, hi nn] := by intro; rfl)
    (takes : TakesOperands opcode 2 := by intro; rfl) :
    Answers (opcode ++ rest) (withWord k rest) := by
  match rest with
  | [] | [_] => exact .error (takes.wellFormedBytes_append _)
  | l :: h :: t => exact .ok (by simp [enc]) (by simp [takes.wellFormedBytes_append])

/-- One of the four lead bytes: alone it is no instruction. -/
theorem withSecond {o1 : Byte} {k : Byte → List Byte → Decoded} (alone : wellFormedBytes [o1] = false)
    (second : ∀ o t, Answers ([o1, o] ++ t) (k o t)) (rest : List Byte) :
    Answers ([o1] ++ rest) (withSecond k rest) := by
  match rest with
  | [] => exact .error alone
  | o :: t => exact second o t

end Answers

/-! ## The unprefixed opcodes -/

theorem decodeX0_answers (y z : Field3) (rest : List Byte) :
    Answers ([opByte 0 y z] ++ rest) (decodeX0 y z rest) := by
  cases z with
  | f0 =>
    cases y with
    | f0 | f1 => exact .plain rest
    | _ => exact .withByte rest
  | f1 =>
    cases y with
    | f1 | f3 | f5 | f7 => exact .plain rest
    | _ => exact .withWord rest
  | f2 =>
    cases y with
    | f0 | f1 | f2 | f3 => exact .plain rest
    | _ => exact .withWord rest
  | f6 => cases y <;> exact .withByte rest
  | f3 | f4 | f5 | f7 => cases y <;> exact .plain rest

theorem decodeX1_answers (y z : Field3) (rest : List Byte) :
    Answers ([opByte 1 y z] ++ rest) (decodeX1 y z rest) := by
  cases y <;> cases z <;> exact .plain rest

theorem decodeX2_answers (y z : Field3) (rest : List Byte) :
    Answers ([opByte 2 y z] ++ rest) (decodeX2 y z rest) := by
  cases y <;> cases z <;> exact .plain rest

/-! ## The CB layer -/

theorem encode_decodeCB (o : Byte) : encode (decodeCB o) = [0xCB, o] := by
  induction o using byFields with
  | x0 y z | x1 y z | x2 y z | x3 y z => cases y <;> cases z <;> rfl

theorem decodeCB_answers (o : Byte) (rest : List Byte) :
    Answers ([0xCB, o] ++ rest) (plain (decodeCB o) rest) :=
  .plain rest (encode_decodeCB o)

/-! ## The ED layer -/

theorem decodeED_answers (o : Byte) (rest : List Byte) :
    Answers ([0xED, o] ++ rest) (decodeED o rest) := by
  induction o using byFields with
  | x0 y z | x3 y z => cases y <;> cases z <;> exact .error rfl
  | x1 y z =>
    cases z with
    | f0 | f1 =>
      cases y with
      | f6 => exact .error rfl
      | _ => exact .plain rest
    | f2 => cases y <;> exact .plain rest
    | f3 => cases y <;> exact .withWord rest
    | f4 =>
      cases y with
      | f0 => exact .plain rest
      | _ => exact .error rfl
    | f5 =>
      cases y with
      | f0 | f1 => exact .plain rest
      | _ => exact .error rfl
    | f6 =>
      cases y with
      | f0 | f2 | f3 => exact .plain rest
      | _ => exact .error rfl
    | f7 =>
      cases y with
      | f6 | f7 => exact .error rfl
      | _ => exact .plain rest
  | x2 y z =>
    cases y with
    | f4 | f5 | f6 | f7 =>
      cases z with
      | f0 | f1 | f2 | f3 => exact .plain rest
      | _ => exact .error rfl
    | _ => cases z <;> exact .error rfl

/-! ## The DD and FD layer -/

/-- The byte that leads the opcode of an index register's instructions (R126). -/
def idxLead (x : Idx) : Byte :=
  match x with
  | .ix => 0xDD
  | .iy => 0xFD

theorem encode_decodeIdxCB (x : Idx) (d o : Byte) :
    encode (decodeIdxCB x d o) = [idxLead x, 0xCB, d, o] := by
  induction o using byFields with
  | x0 y z | x1 y z | x2 y z | x3 y z => cases x <;> cases y <;> cases z <;> rfl

theorem decodeIdxX0_answers (x : Idx) (y z : Field3) (rest : List Byte) :
    Answers ([idxLead x, opByte 0 y z] ++ rest) (decodeIdxX0 x (opByte 0 y z) rest) := by
  cases z with
  | f0 | f7 => cases x <;> cases y <;> exact .error rfl
  | f1 =>
    cases y with
    | f1 | f3 | f5 | f7 => cases x <;> exact .plain rest
    | f4 => cases x <;> exact .withWord rest
    | _ => cases x <;> exact .error rfl
  | f2 =>
    cases y with
    | f4 | f5 => cases x <;> exact .withWord rest
    | _ => cases x <;> exact .error rfl
  | f3 =>
    cases y with
    | f4 | f5 => cases x <;> exact .plain rest
    | _ => cases x <;> exact .error rfl
  | f4 | f5 =>
    cases y with
    | f4 | f5 => cases x <;> exact .plain rest
    | f6 => cases x <;> exact .withByte rest
    | _ => cases x <;> exact .error rfl
  | f6 =>
    cases y with
    | f4 | f5 => cases x <;> exact .withByte rest
    | f6 => cases x <;> exact .withTwoBytes rest
    | _ => cases x <;> exact .error rfl

/-- LD r,r' with at least one operand that DD or FD changes: H, L or (HL) (R130). -/
theorem decodeIdxX1_answers (x : Idx) (y z : Field3) (rest : List Byte) :
    Answers ([idxLead x, opByte 1 y z] ++ rest) (decodeIdxX1 x (opByte 1 y z) rest) := by
  cases y with
  | f4 | f5 =>
    cases z with
    | f6 => cases x <;> exact .withByte rest
    | _ => cases x <;> exact .plain rest
  | f6 =>
    cases z with
    | f6 => cases x <;> exact .error rfl
    | _ => cases x <;> exact .withByte rest
  | _ =>
    cases z with
    | f4 | f5 => cases x <;> exact .plain rest
    | f6 => cases x <;> exact .withByte rest
    | _ => cases x <;> exact .error rfl

theorem decodeIdxX2_answers (x : Idx) (y z : Field3) (rest : List Byte) :
    Answers ([idxLead x, opByte 2 y z] ++ rest) (decodeIdx x (opByte 2 y z) rest) := by
  cases z with
  | f4 | f5 => cases x <;> cases y <;> exact .plain rest
  | f6 => cases x <;> cases y <;> exact .withByte rest
  | _ => cases x <;> cases y <;> exact .error rfl

theorem decodeIdxX3_answers (x : Idx) (y z : Field3) (rest : List Byte) :
    Answers ([idxLead x, opByte 3 y z] ++ rest) (decodeIdx x (opByte 3 y z) rest) := by
  cases z with
  | f1 =>
    cases y with
    | f4 | f5 | f7 => cases x <;> exact .plain rest
    | _ => cases x <;> exact .error rfl
  | f3 =>
    cases y with
    | f1 => cases x <;> exact .withTwoBytes rest (encode_decodeIdxCB _)
    | f4 => cases x <;> exact .plain rest
    | _ => cases x <;> exact .error rfl
  | f5 =>
    cases y with
    | f4 => cases x <;> exact .plain rest
    | _ => cases x <;> exact .error rfl
  | _ => cases x <;> cases y <;> exact .error rfl

theorem decodeIdx_answers (x : Idx) (o : Byte) (rest : List Byte) :
    Answers ([idxLead x, o] ++ rest) (decodeIdx x o rest) := by
  induction o using byFields with
  | x0 y z =>
    have e : decodeIdx x (opByte 0 y z) rest = decodeIdxX0 x (opByte 0 y z) rest := by
      cases y <;> cases z <;> rfl
    exact e ▸ decodeIdxX0_answers x y z rest
  | x1 y z =>
    have e : decodeIdx x (opByte 1 y z) rest = decodeIdxX1 x (opByte 1 y z) rest := by
      cases y <;> cases z <;> rfl
    exact e ▸ decodeIdxX1_answers x y z rest
  | x2 y z => exact decodeIdxX2_answers x y z rest
  | x3 y z => exact decodeIdxX3_answers x y z rest

/-! ## The whole decoder -/

theorem decodeX3_answers (y z : Field3) (rest : List Byte) :
    Answers ([opByte 3 y z] ++ rest) (decodeX3 y z rest) := by
  cases z with
  | f0 | f1 | f7 => cases y <;> exact .plain rest
  | f2 | f4 => cases y <;> exact .withWord rest
  | f3 =>
    cases y with
    | f0 => exact .withWord rest
    | f1 => exact .withSecond rfl decodeCB_answers rest
    | f2 | f3 => exact .withByte rest
    | _ => exact .plain rest
  | f5 =>
    cases y with
    | f1 => exact .withWord rest
    | f3 => exact .withSecond rfl (decodeIdx_answers .ix) rest
    | f5 => exact .withSecond rfl decodeED_answers rest
    | f7 => exact .withSecond rfl (decodeIdx_answers .iy) rest
    | _ => exact .plain rest
  | f6 => cases y <;> exact .withByte rest

theorem decode_answers (bytes : List Byte) : Answers bytes (decode bytes) := by
  match bytes with
  | [] => exact .error rfl
  | o :: rest =>
    induction o using byFields with
    | x0 y z =>
      have e : decode (opByte 0 y z :: rest) = decodeX0 y z rest := by cases y <;> cases z <;> rfl
      exact e ▸ decodeX0_answers y z rest
    | x1 y z =>
      have e : decode (opByte 1 y z :: rest) = decodeX1 y z rest := by cases y <;> cases z <;> rfl
      exact e ▸ decodeX1_answers y z rest
    | x2 y z =>
      have e : decode (opByte 2 y z :: rest) = decodeX2 y z rest := by cases y <;> cases z <;> rfl
      exact e ▸ decodeX2_answers y z rest
    | x3 y z =>
      have e : decode (opByte 3 y z :: rest) = decodeX3 y z rest := by cases y <;> cases z <;> rfl
      exact e ▸ decodeX3_answers y z rest

/-- Settles O55: the decoder's answer is right for every byte list (`decode_answers`). -/
theorem decodeExact : Obligations.DecodeExact := by
  refine ⟨fun bytes => ⟨?_, fun valid => ?_⟩, fun bytes rest i h => ?_⟩
  · rintro ⟨i, rest, h⟩
    cases h ▸ decode_answers bytes with
    | ok _ valid => exact valid
  · cases h : decode bytes with
    | ok answer => exact ⟨answer.1, answer.2, rfl⟩
    | error e =>
      cases h ▸ decode_answers bytes with
      | error invalid => cases valid.symm.trans invalid
  · cases h ▸ decode_answers bytes with
    | ok eq _ => exact eq

/-- Settles O53: each by computation. -/
theorem decodeWords : Obligations.DecodeWords :=
  ⟨rfl, rfl, rfl, rfl, rfl, rfl, rfl, rfl, rfl, rfl, rfl, rfl, rfl⟩

/-! ## The fetch and the step -/

theorem fetch_eq_ok_iff {s u : State} {i : Instr} :
    fetch s = .ok (i, u) ↔
      ∃ rest, decode (fetchBytes s) = .ok (i, rest) ∧ afterFetch (4 - rest.length) s = u := by
  constructor
  · intro h
    unfold fetch at h
    split at h
    · next j rest hd =>
      cases h
      exact ⟨rest, hd, rfl⟩
    · cases h
  · rintro ⟨rest, hd, rfl⟩
    simp only [fetch, hd]

/-- An M1 fetch counts in the low seven bits of R (R38). -/
theorem incR_eq (r : Byte) :
    incR r = BitVec.ofNat 8 (128 * (r.toNat / 128) + (r.toNat % 128 + 1) % 128) :=
  byte_forall (p := fun r =>
    incR r = BitVec.ofNat 8 (128 * (r.toNat / 128) + (r.toNat % 128 + 1) % 128)) (by decide +kernel) r

theorem frame_afterFetch (len : Nat) (s : State) : SameExcept [.pc, .r] s (afterFetch len s) := by
  intro p hp
  cases p with
  | pc | r => exact absurd (by decide) hp
  | hist | machine => exact ⟨rfl, rfl⟩
  | io => exact ⟨rfl, rfl, rfl⟩
  | _ => rfl

/-- R counts once more after one of the four lead bytes (R122). -/
theorem incRTimes_m1Fetches (o r : Byte) :
    incRTimes (m1Fetches o) r =
      if o = 0xCB ∨ o = 0xDD ∨ o = 0xED ∨ o = 0xFD then incR (incR r) else incR r := by
  unfold m1Fetches
  split <;> rfl

/-- Each of the four fetched bytes is the one at its distance from pc. -/
theorem fetchBytes_getElem? {s : State} {k : Nat} {v : Byte} (h : (fetchBytes s)[k]? = some v) :
    s.read8 (s.pc + BitVec.ofNat 16 k) = v := by
  match k with
  | 0 | 1 | 2 | 3 => simpa [fetchBytes] using h
  | k + 4 => simp [fetchBytes] at h

/-- A displacement added to a word is sign-extended, and the sum wraps (R125). -/
theorem add_sext8 (w : Word) (d : Byte) : w + sext8 d = BitVec.ofInt 16 (w.toNat + d.toInt) := by
  rw [BitVec.ofInt_add, BitVec.ofInt_natCast, BitVec.ofNat_toNat, BitVec.setWidth_eq]
  rfl

/-- Settles O51: the fetched bytes are the encoding and the rest (`decodeExact`). -/
theorem fetchAndOperands : Obligations.FetchAndOperands := by
  refine ⟨incR_eq, fun s u i h => ?_, fun x d s => add_sext8 (s.idx x) d, fun e s => add_sext8 s.pc e⟩
  obtain ⟨rest, hd, rfl⟩ := fetch_eq_ok_iff.mp h
  have bytes : fetchBytes s = encode i ++ rest := decodeExact.2 _ _ _ hd
  have length : 4 = (encode i).length + rest.length := by
    simpa [fetchBytes] using congrArg List.length bytes
  refine ⟨?_, incRTimes_m1Fetches .., frame_afterFetch _ s, fun k v hk => fetchBytes_getElem? ?_⟩
  · rw [length, Nat.add_sub_cancel]
    rfl
  · rw [bytes, List.getElem?_append_left (List.getElem?_eq_some_iff.mp hk).1, hk]

/-- Settles O52: neither clearing INV nor the history write changes the bytes that are fetched. -/
theorem stepRunsDecoded : Obligations.StepRunsDecoded := by
  rintro s i rest ⟨on, noFault⟩ running hd
  have fetched : fetch (histWrite { s with inv := false }) =
      .ok (i, afterFetch (4 - rest.length) (histWrite { s with inv := false })) :=
    fetch_eq_ok_iff.mpr ⟨rest, hd, rfl⟩
  rw [step_running on noFault running]
  unfold stepRunning
  generalize fetch (histWrite { s with inv := false }) = answer at fetched ⊢
  subst fetched
  rfl

end Sys2Proof
end

section
/-! PROOFS. The statements of 40_load8.md: the loads of a register (O1), the byte stores (O2), the
transfers between A and I or R (O3, O4), and the loads with index halves (O5). -/

namespace Sys2Proof

open Machine Spec

/-! ## How an instruction is shown to complete -/

/-- An instruction whose meaning leaves the bus alone completes, and stores nothing. -/
theorem completes_of_exec {i : Instr} {s t : State} {changed : List Part} {post : State → Prop}
    (meaning : exec i s = .next t) (bus : t.bus = s.bus) (frame : SameExcept changed s t)
    (after : post t) : Completes i s changed [] post :=
  ⟨t, meaning, after, frame, stores_nil (by rw [bus]) (by rw [bus])⟩

/-- An instruction whose meaning writes one byte completes, and stores that byte. -/
theorem completes_of_exec_write8 {i : Instr} {s t : State} {changed : List Part}
    {post : State → Prop} {a : Word} {v : Byte} (w : StateWf s = true)
    (meaning : exec i s = .next t) (bus : t.bus = s.bus.write8 a v) (frame : SameExcept changed s t)
    (after : post t) : Completes i s changed [(a, v)] post :=
  ⟨t, meaning, after, frame, stores_write8 (bus_wf w) bus⟩

/-- What follows from the frame and from what is said of the next state may be said of it too. -/
theorem Completes.imp {i : Instr} {s : State} {changed : List Part} {writes : List (Word × Byte)}
    {post post' : State → Prop} (h : Completes i s changed writes post)
    (imp : ∀ t, SameExcept changed s t → post t → post' t) : Completes i s changed writes post' := by
  obtain ⟨t, meaning, after, frame, stores⟩ := h
  exact ⟨t, meaning, imp t frame after, frame, stores⟩

/-! ## The loads of a register (R200 to R203, R208 to R210) -/

/-- A load of A that latches an address in WZ: LD A,(BC), LD A,(DE) and LD A,(nn). -/
theorem completes_loadA {i : Instr} {s : State} {v : Byte} {wz : Word} {n : Nat}
    (meaning : exec i s = .next (((s.setA v).setWZ wz).setCycles n)) :
    Completes i s [.a, .wz, .cycles] [] fun t => t.a = v ∧ t.wz = wz ∧ t.cycles = n :=
  completes_of_exec meaning rfl
    ((((SameExcept.self s).setA (by simp)).setWZ (by simp)).setCycles (by simp)) (by simp)

/-- A load of a register: LD r,r', LD r,n, LD r,(HL), and LD r from an index half. -/
theorem completes_loadReg8 {i : Instr} {s : State} {r : Reg8} {v : Byte} {n : Nat}
    (meaning : exec i s = .next ((s.setReg8 r v).setCycles n)) :
    Completes i s [partOf r, .cycles] [] fun t => t.reg8 r = v ∧ t.cycles = n :=
  completes_of_exec meaning (by simp)
    (((SameExcept.self s).setReg8 (by simp)).setCycles (by simp)) (by simp)

theorem completes_ldRegIdx (r : Reg8) (x : Idx) (d : Byte) (s : State) :
    Completes (Instr.ldRegIdx r x d) s [partOf r, .wz, .cycles] [] fun t =>
      t.reg8 r = s.read8 (effAddr x d s) ∧ t.wz = effAddr x d s ∧ t.cycles = 19 :=
  completes_of_exec (exec_ldRegIdx r x d s) (by simp [ldRegIdx])
    ((((SameExcept.self s).latchEA (by simp)).setReg8 (by simp)).setCycles (by simp))
    (by simp [ldRegIdx])

/-- Settles O1: each form writes its destination, WZ where it latches an address, and the cycles. -/
theorem loadRegister : Obligations.LoadRegister := by
  refine ⟨fun dst r s => ⟨?_, completes_loadReg8 (exec_ldRegReg dst r s)⟩,
    fun r n s => ⟨?_, completes_loadReg8 (exec_ldRegImm r n s)⟩,
    fun r s => ⟨?_, completes_loadReg8 (exec_ldRegMem r s)⟩,
    fun r x d s => ⟨?_, completes_ldRegIdx r x d s⟩,
    fun s => ⟨rfl, completes_loadA rfl⟩, fun s => ⟨rfl, completes_loadA rfl⟩,
    fun nn s => ⟨rfl, completes_loadA rfl⟩⟩
  · cases dst <;> cases r <;> rfl
  · cases r <;> rfl
  · cases r <;> rfl
  · cases r <;> cases x <;> rfl

/-! ## The byte stores (R204 to R207, R211 to R213) -/

section
variable {i : Instr} {s : State} (w : StateWf s = true)
include w

/-- A store that leaves WZ alone: LD (HL),r and LD (HL),n. -/
theorem completes_storeByte {a : Word} {v : Byte} {n : Nat}
    (meaning : exec i s = .next ((s.write8 a v).setCycles n)) :
    Completes i s [.memory, .cycles] [(a, v)] fun t => t.cycles = n :=
  completes_of_exec_write8 w meaning rfl
    (((SameExcept.self s).write8 (by simp)).setCycles (by simp)) rfl

/-- A store at (XY+d): LD (XY+d),r and LD (XY+d),n. -/
theorem completes_storeIdx {x : Idx} {d v : Byte}
    (meaning : exec i s = .next (((latchEA x d s).write8 (effAddr x d s) v).setCycles 19)) :
    Completes i s [.memory, .wz, .cycles] [(effAddr x d s, v)] fun t =>
      t.wz = effAddr x d s ∧ t.cycles = 19 :=
  completes_of_exec_write8 w meaning rfl
    ((((SameExcept.self s).latchEA (by simp)).write8 (by simp)).setCycles (by simp)) ⟨rfl, rfl⟩

/-- A store of A: LD (BC),A, LD (DE),A and LD (nn),A. -/
theorem completes_storeA {a wz : Word} {n : Nat}
    (meaning : exec i s = .next (((s.write8 a s.a).setWZ wz).setCycles n)) :
    Completes i s [.memory, .wz, .cycles] [(a, s.a)] fun t => t.wz = wz ∧ t.cycles = n :=
  completes_of_exec_write8 w meaning rfl
    ((((SameExcept.self s).write8 (by simp)).setWZ (by simp)).setCycles (by simp)) ⟨rfl, rfl⟩

end

/-- Settles O2: each form is one byte write, with WZ latched before it or set after it. -/
theorem storeByte : Obligations.StoreByte := by
  refine fun s w => ⟨fun r => ⟨?_, completes_storeByte w (exec_ldMemReg r s)⟩,
    fun x r d => ⟨?_, completes_storeIdx w ?_⟩,
    fun n => ⟨rfl, completes_storeByte w rfl⟩,
    fun x d n => ⟨?_, completes_storeIdx w (exec_ldIdxImm x d n s)⟩,
    ⟨rfl, completes_storeA w rfl⟩, ⟨rfl, completes_storeA w rfl⟩,
    fun nn => ⟨rfl, completes_storeA w rfl⟩⟩
  · cases r <;> rfl
  · cases x <;> cases r <;> rfl
  · exact exec_ldIdxReg x r d s
  · cases x <;> rfl

/-! ## Flags in the spec's mask form -/

theorem szxy_eq_flagMasks (v : Byte) :
    Spec.szxy v = flagMask (v.getLsbD 7) 0x80 ||| flagMask (v == 0) 0x40 |||
      flagMask (v.getLsbD 5) 0x20 ||| flagMask (v.getLsbD 3) 0x08 :=
  byte_forall (p := fun v => Spec.szxy v = flagMask (v.getLsbD 7) 0x80 ||| flagMask (v == 0) 0x40 |||
    flagMask (v.getLsbD 5) 0x20 ||| flagMask (v.getLsbD 3) 0x08) (by decide +kernel) v

/-- S, Z, Y and X from a byte, and the other four flags given. -/
theorem toByte_szxy_with (v : Byte) (h pv n c : Bool) :
    Flags.toByte { Machine.szxy v with h := h, pv := pv, n := n, c := c } =
      Spec.szxy v ||| mask h 0x10 ||| mask pv 0x04 ||| mask n 0x02 ||| mask c 0x01 := by
  rw [szxy_eq_flagMasks]
  simp only [Flags.toByte, Machine.szxy, flagMask, mask]
  ac_rfl

/-- The old carry, kept. -/
theorem mask_flags_c (s : State) : mask s.flags.c 0x01 = s.f &&& 0x01 :=
  byte_forall (p := fun f => mask (Flags.ofByte f).c 0x01 = f &&& 0x01) (by decide +kernel) s.f

/-! ## I and R (R214 to R217) -/

/-- The loads of A from I and from R. -/
theorem completes_ldASpecial {i : Instr} {s : State} {v : Byte}
    (meaning : exec i s = .next (ldASpecial v s)) :
    Completes i s [.a, .f, .cycles] [] fun t =>
      t.a = v ∧ t.f = Spec.szxy v ||| mask s.iff2 0x04 ||| (s.f &&& 0x01) ∧ t.cycles = 9 := by
  refine completes_of_exec meaning rfl
    (((SameExcept.self s).setAF (by simp)).setCycles (by simp)) ⟨by simp [ldASpecial], ?_, rfl⟩
  calc (ldASpecial v s).f
      = Flags.toByte { Machine.szxy v with pv := s.iff2, c := s.flags.c } := State.f_setAF s _
    _ = Spec.szxy v ||| mask false 0x10 ||| mask s.iff2 0x04 ||| mask false 0x02 |||
          mask s.flags.c 0x01 := toByte_szxy_with v false s.iff2 false s.flags.c
    _ = Spec.szxy v ||| mask s.iff2 0x04 ||| (s.f &&& 0x01) := by
      rw [mask_flags_c]
      simp [mask]

theorem frame_setI (s : State) (v : Byte) : SameExcept [.i] s { s with i := v } := by
  intro p hp
  cases p with
  | i => exact absurd (by decide) hp
  | hist | machine => exact ⟨rfl, rfl⟩
  | io => exact ⟨rfl, rfl, rfl⟩
  | _ => rfl

theorem frame_setR (s : State) (v : Byte) : SameExcept [.r] s { s with r := v } := by
  intro p hp
  cases p with
  | r => exact absurd (by decide) hp
  | hist | machine => exact ⟨rfl, rfl⟩
  | io => exact ⟨rfl, rfl, rfl⟩
  | _ => rfl

theorem completes_ld_I_A (s : State) :
    Completes .ld_I_A s [.i, .cycles] [] fun t => t.i = s.a ∧ t.cycles = 9 :=
  completes_of_exec rfl rfl ((frame_setI s s.a).trans (frame_setCycles _ 9)) ⟨rfl, rfl⟩

theorem completes_ld_R_A (s : State) :
    Completes .ld_R_A s [.r, .cycles] [] fun t => t.r = s.a ∧ t.cycles = 9 :=
  completes_of_exec rfl rfl ((frame_setR s s.a).trans (frame_setCycles _ 9)) ⟨rfl, rfl⟩

/-- Settles O3: LD A,I is the load with v = I (`completes_ldASpecial`), LD I,A a write of I alone. -/
theorem interruptRegisterTransfers : Obligations.InterruptRegisterTransfers :=
  ⟨fun _ => ⟨rfl, completes_ldASpecial rfl⟩, fun s => ⟨rfl, completes_ld_I_A s⟩⟩

/-- The fetch of an instruction that 0xED leads counts R twice (R122). -/
theorem fetch_r_of_ED {s u : State} {i : Instr} (h : fetch s = .ok (i, u))
    (leadByte : (encode i)[0]? = some 0xED) : u.r = incR (incR s.r) := by
  obtain ⟨-, hr, -, bytes⟩ := fetchAndOperands.2.1 s u i h
  have first : s.read8 s.pc = 0xED := by simpa using bytes 0 _ leadByte
  simpa [first] using hr

/-- A fetch changes pc and R only. -/
theorem frame_fetch {s u : State} {i : Instr} (h : fetch s = .ok (i, u)) : SameExcept [.pc, .r] s u := by
  obtain ⟨-, -, frame, -⟩ := fetchAndOperands.2.1 s u i h
  exact frame

/-- Settles O4: the fetch of the two bytes counts R twice (`fetch_r_of_ED`), and leaves A, F and IFF2. -/
theorem refreshRegisterTransfers : Obligations.RefreshRegisterTransfers := by
  have load (s : State) : Completes .ld_A_R s [.a, .f, .cycles] [] fun t => t.a = s.r ∧
      t.f = Spec.szxy t.a ||| mask s.iff2 0x04 ||| (s.f &&& 0x01) ∧ t.cycles = 9 :=
    (completes_ldASpecial rfl).imp fun t _ ⟨ha, hf, hc⟩ => ⟨ha, ha ▸ hf, hc⟩
  refine ⟨rfl, rfl, fun s u h => ?_, fun s u h => ?_, load, completes_ld_R_A⟩
  · refine (load u).imp fun t frame ⟨ha, hf, hc⟩ => ?_
    have counted : u.r = incR (incR s.r) := fetch_r_of_ED h rfl
    have kept : t.r = u.r := frame .r (by decide)
    have iff2 : u.iff2 = s.iff2 := frame_fetch h .iff2 (by decide)
    have f : u.f = s.f := frame_fetch h .f (by decide)
    exact ⟨ha.trans counted, kept.trans counted, by rw [hf, iff2, f], hc⟩
  · have a : u.a = s.a := frame_fetch h .a (by decide)
    exact a ▸ completes_ld_R_A u

/-! ## The index halves (R218, R219) -/

/-- A load of XYH or XYL. -/
theorem completes_loadHalf {i : Instr} {s : State} {x : Idx} {k : Half} {v : Byte} {n : Nat}
    (meaning : exec i s = .next ((s.setHalf x k v).setCycles n)) :
    Completes i s [partHalf x k, .cycles] [] fun t => t.half x k = v ∧ t.cycles = n :=
  completes_of_exec meaning (by simp)
    (((SameExcept.self s).setHalf (by simp)).setCycles (by simp)) (by simp)

/-- Settles O5: each form writes one half, or a register that is no half, and the cycles. -/
theorem indexHalfLoads : Obligations.IndexHalfLoads := by
  refine ⟨fun x k j s => ⟨?_, completes_loadHalf (exec_ldHalfHalf x k j s)⟩,
    fun x k r s => ⟨?_, completes_loadHalf (exec_ldHalfReg x k r s)⟩,
    fun r x k s => ⟨?_, completes_loadReg8 (exec_ldRegHalf r x k s)⟩,
    fun x k n s => ⟨?_, completes_loadHalf (exec_ldHalfImm x k n s)⟩⟩
  · cases x <;> cases k <;> cases j <;> rfl
  · cases x <;> cases k <;> cases r <;> rfl
  · cases r <;> cases x <;> cases k <;> rfl
  · cases x <;> cases k <;> rfl

end Sys2Proof
end

section
/-! PROOFS. The statements of 41_load16.md: the loads of a pair (O6), the stores of a pair (O7), PUSH (O8)
and POP (O9). -/

namespace Sys2Proof

open Machine Spec

/-- More pieces of the state may be listed as changed. -/
theorem Completes.mono {i : Instr} {s : State} {ps qs : List Part} {writes : List (Word × Byte)}
    {post : State → Prop} (h : Completes i s ps writes post) (sub : ∀ p ∈ ps, p ∈ qs) :
    Completes i s qs writes post := by
  obtain ⟨t, meaning, after, frame, stores⟩ := h
  exact ⟨t, meaning, after, frame.mono sub, stores⟩

/-! ## The loads of a pair (R230 to R234, R238, R239) -/

section
variable {i : Instr} {s : State} {v : Word} {n : Nat}

/-- A load of a pair that leaves WZ alone: LD dd,nn, and the loads of SP. -/
theorem completes_loadPair {p : PairSS} (meaning : exec i s = .next ((s.setPairSS p v).setCycles n)) :
    Completes i s (.cycles :: partsSS p) [] fun t => t.pairSS p = v ∧ t.cycles = n :=
  completes_of_exec meaning (by simp)
    (((SameExcept.self s).setPairSS fun _ m => by simp [m]).setCycles (by simp)) (by simp)

/-- LD SP,HL and LD SP,XY: a load of SP as a pair. -/
theorem completes_loadSP (meaning : exec i s = .next { s with sp := v, cycles := n }) :
    Completes i s [.sp, .cycles] [] fun t => t.sp = v ∧ t.cycles = n :=
  (completes_loadPair (p := .sp) meaning).mono (by decide)

/-- LD dd,(nn), in the ED form and in the short form of HL. -/
theorem completes_loadPairMem {p : PairSS} {nn : Word}
    (meaning : exec i s = .next (ldPairMemIn n p nn s)) :
    Completes i s (.wz :: .cycles :: partsSS p) [] fun t =>
      t.pairSS p = pair (s.read8 (nn + 1)) (s.read8 nn) ∧ t.wz = nn + 1 ∧ t.cycles = n :=
  completes_of_exec meaning (by simp [ldPairMemIn])
    ((((SameExcept.self s).setPairSS fun _ m => by simp [m]).setWZ (by simp)).setCycles (by simp))
    (by simp [ldPairMemIn, State.read16])

end

theorem completes_ldIdxImm16 (x : Idx) (nn : Word) (s : State) :
    Completes (Instr.ldIdxImm16 x nn) s (.cycles :: partsIdx x) [] fun t =>
      t.idx x = nn ∧ t.cycles = 14 :=
  completes_of_exec (exec_ldIdxImm16 x nn s) (by simp [ldIdxImm16])
    (((SameExcept.self s).setIdx fun _ m => by simp [m]).setCycles (by simp)) (by simp [ldIdxImm16])

theorem completes_ldIdxMem (x : Idx) (nn : Word) (s : State) :
    Completes (Instr.ldIdxMem x nn) s (.wz :: .cycles :: partsIdx x) [] fun t =>
      t.idx x = pair (s.read8 (nn + 1)) (s.read8 nn) ∧ t.wz = nn + 1 ∧ t.cycles = 20 :=
  completes_of_exec (exec_ldIdxMem x nn s) (by simp [ldIdxMem])
    ((((SameExcept.self s).setIdx fun _ m => by simp [m]).setWZ (by simp)).setCycles (by simp))
    (by simp [ldIdxMem, State.read16])

/-- Settles O6: each form writes its pair, WZ where it reads memory, and the cycles. -/
theorem loadPair : Obligations.LoadPair := by
  refine ⟨fun p nn s => ⟨?_, completes_loadPair (exec_ldPairImm p nn s)⟩,
    fun x nn s => ⟨?_, completes_ldIdxImm16 x nn s⟩,
    fun nn s => ⟨rfl, (completes_loadPairMem (p := .hl) rfl).mono (by decide)⟩,
    fun p nn s => ⟨?_, completes_loadPairMem (exec_ldPairMem p nn s)⟩,
    fun x nn s => ⟨?_, completes_ldIdxMem x nn s⟩,
    fun s => ⟨rfl, completes_loadSP rfl⟩,
    fun x s => ⟨?_, completes_loadSP (exec_ldSpIdx x s)⟩⟩
  · cases p <;> rfl
  · cases x <;> rfl
  · cases p <;> rfl
  · cases x <;> rfl
  · cases x <;> rfl

/-! ## The stores of a pair (R235 to R237) and PUSH (R240, R241) -/

section
variable {i : Instr} {s : State} {v : Word} {n : Nat} (w : StateWf s = true)
include w

/-- A store of a word at nn: LD (nn),HL, LD (nn),dd and LD (nn),XY. -/
theorem completes_storeWord {nn : Word} (meaning : exec i s = .next (ldMemWordIn n nn v s)) :
    Completes i s [.memory, .wz, .cycles] [(nn + 1, hi v), (nn, lo v)] fun t =>
      t.wz = nn + 1 ∧ t.cycles = n :=
  ⟨_, meaning, ⟨rfl, rfl⟩,
    (((frame_write16 s nn v).mono (by simp)).setWZ (by simp)).setCycles (by simp),
    stores_congr (stores_write16 w nn v) rfl rfl⟩

/-- A push of a word: PUSH qq and PUSH XY. -/
theorem completes_push (meaning : exec i s = .next ((s.push16 v).setCycles n)) :
    Completes i s [.memory, .sp, .cycles] [(s.sp - 2, lo v), (s.sp - 1, hi v)] fun t =>
      t.sp = s.sp - 2 ∧ t.cycles = n :=
  ⟨_, meaning, ⟨State.push16_sp s v, rfl⟩,
    ((frame_push16 s v).mono (by simp)).setCycles (by simp), stores_push16 (bus_wf w) rfl⟩

end

/-- Settles O7: each form is one word write, with WZ set after it. -/
theorem storePair : Obligations.StorePair := by
  refine fun s w => ⟨fun nn => ⟨rfl, completes_storeWord w rfl⟩,
    fun p nn => ⟨?_, completes_storeWord w (exec_ldMemPair p nn s)⟩,
    fun x nn => ⟨?_, completes_storeWord w (exec_ldMemIdx x nn s)⟩⟩
  · cases p <;> rfl
  · cases x <;> rfl

/-- Settles O8: each form is one push of its pair (`stores_push16`). -/
theorem pushPair : Obligations.PushPair := by
  refine fun s w => ⟨fun p => ⟨?_, completes_push w (exec_pushPair p s)⟩,
    fun x => ⟨?_, completes_push w (exec_pushIdx x s)⟩⟩
  · cases p <;> rfl
  · cases x <;> rfl

/-! ## POP (R242, R243) -/

theorem completes_popPair (p : PairQQ) (s : State) :
    Completes (Instr.popPair p) s (.sp :: .cycles :: partsQQ p) [] fun t =>
      t.pairQQ p = pair (s.read8 (s.sp + 1)) (s.read8 s.sp) ∧ t.sp = s.sp + 2 ∧ t.cycles = 10 :=
  completes_of_exec (exec_popPair p s) (by simp [popPair])
    ((((frame_popState s).mono (by simp)).setPairQQ fun _ m => by simp [m]).setCycles (by simp))
    (by simp [popPair, State.popValue])

theorem completes_popIdx (x : Idx) (s : State) :
    Completes (Instr.popIdx x) s (.sp :: .cycles :: partsIdx x) [] fun t =>
      t.idx x = pair (s.read8 (s.sp + 1)) (s.read8 s.sp) ∧ t.sp = s.sp + 2 ∧ t.cycles = 14 :=
  completes_of_exec (exec_popIdx x s) (by simp [popIdx])
    ((((frame_popState s).mono (by simp)).setIdx fun _ m => by simp [m]).setCycles (by simp))
    (by simp [popIdx, State.popValue])

/-- Settles O9: each form loads its pair with the word at SP into the state `popState` leaves. -/
theorem popPair : Obligations.PopPair := by
  refine ⟨fun p s => ⟨?_, completes_popPair p s⟩, fun x s => ⟨?_, completes_popIdx x s⟩⟩
  · cases p <;> rfl
  · cases x <;> rfl

end Sys2Proof
end

section
/-! PROOFS. The statements of 42_exchange_block.md: the exchanges of registers (O10) and with the word at
SP (O11), a unit of a block transfer (O12) and of a block compare (O13), and the repeating forms (O14). -/

namespace Sys2Proof

open Machine Spec

/-! ## The exchanges of registers (R260 to R262) -/

/-- What EX DE,HL writes are two pairs. -/
theorem frame_ex_DE_HL (s : State) :
    SameExcept [.d, .e, .h, .l, .cycles] s { s with de := s.hl, hl := s.de, cycles := 4 } :=
  SameExcept.self s
    |>.setPairSS (q := .de) (v := s.hl) (by decide)
    |>.setPairSS (q := .hl) (v := s.de) (by decide)
    |>.setCycles (n := 4) (by decide)

theorem frame_setAF' (s : State) (v : Word) : SameExcept [.af'] s { s with af' := v } := by
  intro p hp
  cases p with
  | af' => exact absurd (by decide) hp
  | hist | machine => exact ⟨rfl, rfl⟩
  | io => exact ⟨rfl, rfl, rfl⟩
  | _ => rfl

/-- What EX AF,AF' writes beside the shadow is a pair. -/
theorem frame_ex_AF_AF (s : State) :
    SameExcept [.a, .f, .af', .cycles] s { s with af := s.af', af' := s.af, cycles := 4 } :=
  (frame_setAF' s s.af).mono (by decide)
    |>.setPairQQ (q := .af) (v := s.af') (by decide)
    |>.setCycles (n := 4) (by decide)

/-- A write of the shadows that EXX exchanges. -/
theorem frame_setShadows (s : State) (bc de hl wz : Word) :
    SameExcept [.bc', .de', .hl', .wz'] s { s with bc' := bc, de' := de, hl' := hl, wz' := wz } := by
  intro p hp
  cases p with
  | bc' | de' | hl' | wz' => exact absurd (by decide) hp
  | hist | machine => exact ⟨rfl, rfl⟩
  | io => exact ⟨rfl, rfl, rfl⟩
  | _ => rfl

/-- What EXX writes beside the shadows are three pairs and WZ. -/
theorem frame_exx (s : State) :
    SameExcept [.b, .c, .d, .e, .h, .l, .wz, .bc', .de', .hl', .wz', .cycles] s
      { s with
        bc := s.bc', de := s.de', hl := s.hl', wz := s.wz'
        bc' := s.bc, de' := s.de, hl' := s.hl, wz' := s.wz, cycles := 4 } :=
  (frame_setShadows s s.bc s.de s.hl s.wz).mono (by decide)
    |>.setPairSS (q := .bc) (v := s.bc') (by decide)
    |>.setPairSS (q := .de) (v := s.de') (by decide)
    |>.setPairSS (q := .hl) (v := s.hl') (by decide)
    |>.setWZ (v := s.wz') (by decide)
    |>.setCycles (n := 4) (by decide)

/-- Settles O10: each exchange writes the registers it names with each other's old values. -/
theorem exchanges : Obligations.Exchanges :=
  ⟨fun s => ⟨rfl, completes_of_exec rfl rfl (frame_ex_DE_HL s) ⟨rfl, rfl, rfl⟩⟩,
    fun s => ⟨rfl, completes_of_exec rfl rfl (frame_ex_AF_AF s) ⟨rfl, rfl, rfl⟩⟩,
    fun s => ⟨rfl, completes_of_exec rfl rfl (frame_exx s)
      ⟨rfl, rfl, rfl, rfl, rfl, rfl, rfl, rfl, rfl⟩⟩⟩

/-! ## The exchanges with the word at SP (R263, R264) -/

theorem frame_exSpStore (v : Word) (s : State) : SameExcept [.memory, .wz] s (exSpStore v s) :=
  ((frame_write16 s s.sp v).mono (by decide)).setWZ (by decide)

section
variable {s : State} (w : StateWf s = true)
include w

/-- What the exchange of v with the word at SP stores. -/
theorem stores_exSpStore (v : Word) :
    Stores [(s.sp + 1, hi v), (s.sp, lo v)] s (exSpStore v s) :=
  stores_congr (stores_write16 w s.sp v) rfl rfl

theorem completes_ex_mSP_HL :
    Completes .ex_mSP_HL s [.memory, .h, .l, .wz, .cycles] [(s.sp + 1, hi s.hl), (s.sp, lo s.hl)]
      fun t => t.hl = pair (s.read8 (s.sp + 1)) (s.read8 s.sp) ∧ t.wz = t.hl ∧ t.cycles = 19 :=
  ⟨((exSpStore s.hl s).setPairSS .hl (s.read16 s.sp)).setCycles 19, rfl, ⟨rfl, rfl, rfl⟩,
    (((frame_exSpStore s.hl s).mono (by decide)).setPairSS (by decide)).setCycles (by decide),
    stores_congr (stores_exSpStore w s.hl) rfl rfl⟩

theorem completes_exSpIdx (x : Idx) :
    Completes (Instr.exSpIdx x) s (.memory :: .wz :: .cycles :: partsIdx x)
      [(s.sp + 1, hi (s.idx x)), (s.sp, lo (s.idx x))] fun t =>
        t.idx x = pair (s.read8 (s.sp + 1)) (s.read8 s.sp) ∧ t.wz = t.idx x ∧ t.cycles = 23 :=
  ⟨exSpIdx x s, exec_exSpIdx x s, by simp [exSpIdx, exSpStore, State.read16],
    (((frame_exSpStore _ s).mono (by simp)).setIdx fun _ m => by simp [m]).setCycles (by simp),
    stores_congr (stores_exSpStore w _) (by simp [exSpIdx]) (by simp [exSpIdx])⟩

end

/-- Settles O11: each form is `exSpStore`, then a load of its register with the old word at SP. -/
theorem exchangeStackTop : Obligations.ExchangeStackTop := by
  refine fun s w => ⟨⟨rfl, completes_ex_mSP_HL w⟩, fun x => ⟨?_, completes_exSpIdx w x⟩⟩
  cases x <;> rfl

/-! ## A unit of a block transfer (R266, R268) -/

/-- The flags a transfer keeps. -/
theorem and_C1_eq_flagMasks (f : Byte) :
    f &&& 0xC1 = flagMask (f.getLsbD 7) 0x80 ||| flagMask (f.getLsbD 6) 0x40 |||
      flagMask (f.getLsbD 0) 0x01 :=
  byte_forall (p := fun f => f &&& 0xC1 = flagMask (f.getLsbD 7) 0x80 |||
    flagMask (f.getLsbD 6) 0x40 ||| flagMask (f.getLsbD 0) 0x01) (by decide +kernel) f

theorem toByte_ldUnitFlags (n : Byte) (bc : Word) (f : Byte) :
    (ldUnitFlags n bc (Flags.ofByte f)).toByte = transferFlags n bc f := by
  rw [transferFlags, and_C1_eq_flagMasks]
  simp only [Flags.toByte, ldUnitFlags, Flags.ofByte, mask, flagMask, Bool.false_eq_true,
    if_false]
  ac_rfl

theorem ldUnit_f (down : Bool) (s : State) :
    (ldUnit down s).f = transferFlags (s.read8 s.hl + s.a) (s.bc - 1) s.f :=
  (lo_withLo _ _).trans (toByte_ldUnitFlags _ _ _)

/-- A transfer stores a byte and writes three pairs and F. -/
theorem frame_ldUnit (down : Bool) (s : State) :
    SameExcept [.memory, .b, .c, .d, .e, .h, .l, .f] s (ldUnit down s) :=
  SameExcept.self s
    |>.write8 (a := s.de) (v := s.read8 s.hl) (by decide)
    |>.setPairSS (q := .hl) (v := stepWord down s.hl) (by decide)
    |>.setPairSS (q := .de) (v := stepWord down s.de) (by decide)
    |>.setPairSS (q := .bc) (v := s.bc - 1) (by decide)
    |>.setFlags (by decide)

/-- LDI and LDD. -/
theorem completes_ldBlock {i : Instr} {s : State} {down : Bool} (w : StateWf s = true)
    (meaning : exec i s = .next (ldBlock down s)) :
    Completes i s [.memory, .b, .c, .d, .e, .h, .l, .f, .cycles] [(s.de, s.read8 s.hl)] fun t =>
      t.hl = stepWord down s.hl ∧ t.de = stepWord down s.de ∧ t.bc = s.bc - 1 ∧
        t.f = transferFlags (s.read8 s.hl + s.a) (s.bc - 1) s.f ∧ t.cycles = 16 :=
  completes_of_exec_write8 w meaning rfl
    (((frame_ldUnit down s).mono (by decide)).setCycles (by decide))
    ⟨rfl, rfl, rfl, ldUnit_f down s, rfl⟩

/-- Settles O12: LDI and LDD are `ldBlock` in its two directions. -/
theorem blockTransfer : Obligations.BlockTransfer :=
  ⟨rfl, rfl, fun _ w => ⟨completes_ldBlock (down := false) w rfl,
    completes_ldBlock (down := true) w rfl⟩⟩

/-! ## A unit of a block compare (R270, R271, R273) -/

theorem and_80_eq_flagMask (v : Byte) : v &&& 0x80 = flagMask (v.getLsbD 7) 0x80 :=
  byte_forall (p := fun v => v &&& 0x80 = flagMask (v.getLsbD 7) 0x80) (by decide +kernel) v

/-- The half-carry taken off the difference (D12). -/
theorem sub_mask_one (r : Byte) (h : Bool) : r - mask h 1 = if h then r - 1 else r := by
  cases h
  · exact BitVec.sub_zero r
  · rfl

theorem toByte_cpUnitFlags (a v : Byte) (bc : Word) (s : State) :
    (cpUnitFlags a v bc s.flags).toByte = compareFlags a v bc s.f := by
  simp only [compareFlags, sub_mask_one, and_80_eq_flagMask, ← mask_flags_c]
  simp only [Flags.toByte, cpUnitFlags, mask, flagMask, if_true]
  ac_rfl

theorem cpUnit_f (down : Bool) (s : State) :
    (cpUnit down s).f = compareFlags s.a (s.read8 s.hl) (s.bc - 1) s.f :=
  (lo_withLo _ _).trans (toByte_cpUnitFlags _ _ _ s)

/-- A compare writes two pairs, F and WZ. -/
theorem frame_cpUnit (down : Bool) (s : State) :
    SameExcept [.b, .c, .h, .l, .f, .wz] s (cpUnit down s) :=
  SameExcept.self s
    |>.setPairSS (q := .hl) (v := stepWord down s.hl) (by decide)
    |>.setPairSS (q := .bc) (v := s.bc - 1) (by decide)
    |>.setFlags (by decide)
    |>.setWZ (by decide)

/-- CPI and CPD. -/
theorem completes_cpBlock {i : Instr} {s : State} {down : Bool}
    (meaning : exec i s = .next (cpBlock down s)) :
    Completes i s [.b, .c, .h, .l, .f, .wz, .cycles] [] fun t =>
      t.hl = stepWord down s.hl ∧ t.bc = s.bc - 1 ∧ t.wz = stepWord down s.wz ∧
        t.f = compareFlags s.a (s.read8 s.hl) (s.bc - 1) s.f ∧ t.cycles = 16 :=
  completes_of_exec meaning rfl (((frame_cpUnit down s).mono (by decide)).setCycles (by decide))
    ⟨rfl, rfl, rfl, cpUnit_f down s, rfl⟩

/-- Settles O13: CPI and CPD are `cpBlock` in its two directions. -/
theorem blockCompare : Obligations.BlockCompare :=
  ⟨rfl, rfl, fun _ => completes_cpBlock (down := false) rfl,
    fun _ => completes_cpBlock (down := true) rfl⟩

/-! ## The repeating forms (R265, R267, R269, R272, R274) -/

/-- The end of a repeating form, with its condition as a proposition. -/
theorem blockRepeat_eq_ite {again : Bool} {P : Prop} [Decidable P] (h : again = true ↔ P)
    (s : State) :
    blockRepeat again (blockRepeatWZ again s) =
      if P then { s with pc := s.pc - 2, wz := s.pc - 2 + 1, cycles := 21 } else s.setCycles 16 := by
  cases again with
  | true => exact (if_pos (h.mp rfl)).symm
  | false => exact (if_neg fun p => Bool.false_ne_true (h.mpr p)).symm

theorem ldBlockRepeat_eq (down : Bool) (s : State) :
    ldBlockRepeat down s =
      if (ldBlock down s).bc ≠ 0 then
        { ldBlock down s with pc := s.pc - 2, wz := s.pc - 2 + 1, cycles := 21 }
      else ldBlock down s :=
  blockRepeat_eq_ite bne_iff_ne (ldUnit down s)

theorem cpBlockRepeat_eq (down : Bool) (s : State) :
    cpBlockRepeat down s =
      if (cpBlock down s).bc ≠ 0 ∧ s.a - s.read8 s.hl ≠ 0 then
        { cpBlock down s with pc := s.pc - 2, wz := s.pc - 2 + 1, cycles := 21 }
      else cpBlock down s :=
  blockRepeat_eq_ite (by simp [cpUnitDiff, cpBlock]) (cpUnit down s)

/-- Settles O14: each repeating form is its unit with the end of R265 (`ldBlockRepeat_eq`,
`cpBlockRepeat_eq`). -/
theorem blockRepeat : Obligations.BlockRepeat :=
  ⟨rfl, rfl, rfl, rfl,
    fun s => ⟨ldBlock false s, rfl, congrArg Host.Outcome.next (ldBlockRepeat_eq false s)⟩,
    fun s => ⟨ldBlock true s, rfl, congrArg Host.Outcome.next (ldBlockRepeat_eq true s)⟩,
    fun s => ⟨cpBlock false s, rfl, congrArg Host.Outcome.next (cpBlockRepeat_eq false s)⟩,
    fun s => ⟨cpBlock true s, rfl, congrArg Host.Outcome.next (cpBlockRepeat_eq true s)⟩⟩

end Sys2Proof
end

section
/-! PROOFS. The statements of 43_alu8.md: the eight accumulator operations (O15), INC and DEC of a
register or an index half (O16) and of a memory byte (O17), and SUB after ADD (O18). -/

namespace Sys2Proof

open Machine Spec

/-! ## Results and flags in the spec's mask form (R300, R301, R317, R318, R321)

The meanings give a result with a flag record, the spec a result with a flag byte:
`Prod.map id Flags.toByte` takes the one to the other. -/

theorem and_10_eq_mask (v : Byte) : v &&& 0x10 = mask (v.getLsbD 4) 0x10 :=
  byte_forall (p := fun v => v &&& 0x10 = mask (v.getLsbD 4) 0x10) (by decide +kernel) v

theorem and_28_eq_masks (v : Byte) :
    v &&& 0x28 = mask (v.getLsbD 5) 0x20 ||| mask (v.getLsbD 3) 0x08 :=
  byte_forall (p := fun v => v &&& 0x28 = mask (v.getLsbD 5) 0x20 ||| mask (v.getLsbD 3) 0x08)
    (by decide +kernel) v

theorem and_80_bne_zero (v : Byte) : (v &&& 0x80 != 0) = v.getLsbD 7 :=
  byte_forall (p := fun v => (v &&& 0x80 != 0) = v.getLsbD 7) (by decide +kernel) v

/-- Y and X replaced in a flag record are bits 5 and 3 replaced in its byte. -/
theorem toByte_with_yx (f : Flags) (y x : Bool) :
    Flags.toByte { f with y := y, x := x } =
      (f.toByte &&& ~~~0x28) ||| (mask y 0x20 ||| mask x 0x08) := by
  have bytes : ∀ y x : Bool, Flags.toByte { Flags.ofByte f.toByte with y := y, x := x } =
      (f.toByte &&& ~~~0x28) ||| (mask y 0x20 ||| mask x 0x08) :=
    byte_forall (p := fun v => ∀ y x : Bool, Flags.toByte { Flags.ofByte v with y := y, x := x } =
      (v &&& ~~~0x28) ||| (mask y 0x20 ||| mask x 0x08)) (by decide +kernel) f.toByte
  simpa only [ofByte_toByte] using bytes y x

theorem toByte_add8 (a b : Byte) (c : Bool) :
    Prod.map id Flags.toByte (Machine.add8 a b c) = Spec.add8 a b c := by
  simp only [Machine.add8, Spec.add8, Prod.map, id, toByte_szxy_with, and_10_eq_mask,
    and_80_bne_zero]
  simp [mask, Machine.szxy]

theorem toByte_sub8 (a b : Byte) (c : Bool) :
    Prod.map id Flags.toByte (Machine.sub8 a b c) = Spec.sub8 a b c := by
  simp only [Machine.sub8, Spec.sub8, Prod.map, id, toByte_szxy_with, and_10_eq_mask,
    and_80_bne_zero]
  simp [mask]

theorem toByte_flogic (r : Byte) (h : Bool) : (flogic r h).toByte = logic r h :=
  calc (flogic r h).toByte
      = Spec.szxy r ||| mask h 0x10 ||| mask (parity r) 0x04 ||| mask false 0x02 |||
          mask false 0x01 := toByte_szxy_with r h (parity r) false false
    _ = logic r h := by
      simp only [logic, Spec.szxyp, mask, Bool.false_eq_true, if_false]
      ac_rfl

theorem toByte_inc8 (v : Byte) (s : State) :
    Prod.map id Flags.toByte (inc8 v s.flags) = inc v s.f := by
  simp only [inc8, inc, Prod.map, id, toByte_szxy_with, mask_flags_c]
  simp [mask, Machine.szxy]

theorem toByte_dec8 (v : Byte) (s : State) :
    Prod.map id Flags.toByte (dec8 v s.flags) = dec v s.f := by
  simp only [dec8, dec, Prod.map, id, toByte_szxy_with, mask_flags_c]
  simp [mask]

/-- CP's flag byte, under both settings of P_CP_XY_SOURCE. -/
theorem toByte_cpFlags (v : Byte) (s : State) :
    (cpFlags v s).toByte = (accumulator .cp s.a v (carry s) s.params.cpXySource).2 := by
  have difference : (Machine.sub8 s.a v false).2.toByte = (Spec.sub8 s.a v false).2 :=
    congrArg Prod.snd (toByte_sub8 s.a v false)
  cases source : s.params.cpXySource with
  | result => simp only [cpFlags, accumulator, source, difference]
  | operand =>
    simp only [cpFlags, accumulator, source, toByte_with_yx, difference, and_28_eq_masks]

/-! ## The accumulator operations (R302, R310 to R317) -/

theorem setAF_values (s : State) (p : Byte × Flags) :
    ((s.setAF p).a, (s.setAF p).f) = Prod.map id Flags.toByte p :=
  Prod.ext (State.a_setAF s p) (State.f_setAF s p)

/-- A and F after an accumulator operation are those of the spec. -/
theorem aluApply_values (op : AluOp) (v : Byte) (s : State) :
    ((aluApply op v s).a, (aluApply op v s).f) =
      accumulator op s.a v (carry s) s.params.cpXySource := by
  cases op with
  | add => exact (setAF_values s _).trans (toByte_add8 s.a v false)
  | adc => exact (setAF_values s _).trans (toByte_add8 s.a v (carry s))
  | sub => exact (setAF_values s _).trans (toByte_sub8 s.a v false)
  | sbc => exact (setAF_values s _).trans (toByte_sub8 s.a v (carry s))
  | and => exact (setAF_values s _).trans (congrArg (Prod.mk _) (toByte_flogic (s.a &&& v) true))
  | xor => exact (setAF_values s _).trans (congrArg (Prod.mk _) (toByte_flogic (s.a ^^^ v) false))
  | or => exact (setAF_values s _).trans (congrArg (Prod.mk _) (toByte_flogic (s.a ||| v) false))
  | cp =>
    have kept : s.a = (accumulator .cp s.a v (carry s) s.params.cpXySource).1 := by
      cases s.params.cpXySource <;> rfl
    exact Prod.ext ((State.a_setFlags s _).trans kept)
      ((State.f_setFlags s _).trans (toByte_cpFlags v s))

/-- An accumulator operation on r, n, (HL) or an index half. -/
theorem completes_aluApply {i : Instr} {op : AluOp} {v : Byte} {s : State} {n : Nat}
    (meaning : exec i s = .next ((aluApply op v s).setCycles n)) :
    Completes i s [.a, .f, .cycles] [] fun t =>
      (t.a, t.f) = accumulator op s.a v (carry s) s.params.cpXySource ∧ t.cycles = n :=
  completes_of_exec meaning (aluApply_bus op v s)
    (((frame_aluApply op v s).mono (by decide)).setCycles (by decide))
    ⟨aluApply_values op v s, rfl⟩

theorem completes_aluIdx (op : AluOp) (x : Idx) (d : Byte) (s : State) :
    Completes (Instr.aluIdx op x d) s [.a, .f, .wz, .cycles] [] fun t =>
      (t.a, t.f) = accumulator op s.a (s.read8 (effAddr x d s)) (carry s) s.params.cpXySource ∧
        t.wz = effAddr x d s ∧ t.cycles = 19 :=
  completes_of_exec (exec_aluIdx op x d s) (aluApply_bus op _ (latchEA x d s))
    ((((frame_latchEA s x d).trans (frame_aluApply op _ _)).mono (by decide)).setCycles (by decide))
    ⟨aluApply_values op _ (latchEA x d s), aluApply_wz op _ (latchEA x d s), rfl⟩

/-- Settles O15: each form is `aluApply` on its operand (`aluApply_values`). -/
theorem accumulatorOperations : Obligations.AccumulatorOperations := by
  refine fun op s => ⟨fun r => ⟨?_, completes_aluApply (exec_aluReg op r s)⟩,
    fun n => ⟨?_, completes_aluApply (exec_aluImm op n s)⟩,
    ⟨?_, completes_aluApply (exec_aluMem op s)⟩,
    fun x d => ⟨?_, completes_aluIdx op x d s⟩,
    fun x k => ⟨?_, completes_aluApply (exec_aluHalf op x k s)⟩⟩
  · cases op <;> cases r <;> rfl
  · cases op <;> rfl
  · cases op <;> rfl
  · cases op <;> cases x <;> rfl
  · cases op <;> cases x <;> cases k <;> rfl

/-! ## INC and DEC of a register and of an index half (R318, R321, R324, R325) -/

section
variable {i : Instr} {s : State} {res : Byte × Flags} {p : Byte × Byte} {n : Nat}
  (value : Prod.map id Flags.toByte res = p)
include value

/-- A register and F written with a result and its flags. -/
theorem completes_writeReg8Flags {r : Reg8}
    (meaning : exec i s = .next (((s.setReg8 r res.1).setFlags res.2).setCycles n)) :
    Completes i s [partOf r, .f, .cycles] [] fun t => (t.reg8 r, t.f) = p ∧ t.cycles = n :=
  completes_of_exec meaning (by simp)
    ((((SameExcept.self s).setReg8 (by simp)).setFlags (by simp)).setCycles (by simp))
    (by simp [← value, Prod.map])

/-- An index half and F written with a result and its flags. -/
theorem completes_writeHalfFlags {x : Idx} {k : Half}
    (meaning : exec i s = .next (((s.setHalf x k res.1).setFlags res.2).setCycles n)) :
    Completes i s [partHalf x k, .f, .cycles] [] fun t => (t.half x k, t.f) = p ∧ t.cycles = n :=
  completes_of_exec meaning (by simp)
    ((((SameExcept.self s).setHalf (by simp)).setFlags (by simp)).setCycles (by simp))
    (by simp [← value, Prod.map])

end

/-- Settles O16: each form writes `inc8` or `dec8` of the old value (`toByte_inc8`, `toByte_dec8`). -/
theorem incrementDecrement : Obligations.IncrementDecrement := by
  refine ⟨fun r s => ⟨?_, completes_writeReg8Flags (toByte_inc8 _ s) (exec_incReg r s)⟩,
    fun r s => ⟨?_, completes_writeReg8Flags (toByte_dec8 _ s) (exec_decReg r s)⟩,
    fun x k s => ⟨?_, completes_writeHalfFlags (toByte_inc8 _ s) (exec_incHalf x k s)⟩,
    fun x k s => ⟨?_, completes_writeHalfFlags (toByte_dec8 _ s) (exec_decHalf x k s)⟩⟩
  · cases r <;> rfl
  · cases r <;> rfl
  · cases x <;> cases k <;> rfl
  · cases x <;> cases k <;> rfl

/-! ## INC and DEC of a memory byte (R319, R320, R322, R323) -/

section
variable {i : Instr} {s : State} {res : Byte × Flags} {p : Byte × Byte} (w : StateWf s = true)
  (value : Prod.map id Flags.toByte res = p)
include w value

/-- A byte stored at `a` and F written with a result and its flags. -/
theorem completes_writeByteFlags {a : Word} {n : Nat}
    (meaning : exec i s = .next (((s.write8 a res.1).setFlags res.2).setCycles n)) :
    Completes i s [.memory, .f, .cycles] [(a, p.1)] fun t => t.f = p.2 ∧ t.cycles = n := by
  subst value
  exact completes_of_exec_write8 w meaning rfl
    ((((SameExcept.self s).write8 (by simp)).setFlags (by simp)).setCycles (by simp))
    ⟨State.f_setFlags _ _, rfl⟩

/-- The same at (XY+d), with the address latched in WZ. -/
theorem completes_writeIdxFlags {x : Idx} {d : Byte}
    (meaning : exec i s =
      .next ((((latchEA x d s).write8 (effAddr x d s) res.1).setFlags res.2).setCycles 23)) :
    Completes i s [.memory, .f, .wz, .cycles] [(effAddr x d s, p.1)] fun t =>
      t.f = p.2 ∧ t.wz = effAddr x d s ∧ t.cycles = 23 := by
  subst value
  exact completes_of_exec_write8 w meaning rfl
    (((((SameExcept.self s).latchEA (by simp)).write8 (by simp)).setFlags (by simp)).setCycles
      (by simp)) ⟨State.f_setFlags _ _, rfl, rfl⟩

end

/-- Settles O17: each form stores `inc8` or `dec8` of the byte read (`toByte_inc8`, `toByte_dec8`). -/
theorem incrementDecrementMemory : Obligations.IncrementDecrementMemory := by
  refine fun s w => ⟨⟨rfl, completes_writeByteFlags w (toByte_inc8 _ s) rfl⟩,
    ⟨rfl, completes_writeByteFlags w (toByte_dec8 _ s) rfl⟩,
    fun x d => ⟨?_, completes_writeIdxFlags w (toByte_inc8 _ s) (exec_incIdx x d s)⟩,
    fun x d => ⟨?_, completes_writeIdxFlags w (toByte_dec8 _ s) (exec_decIdx x d s)⟩⟩
  · cases x <;> rfl
  · cases x <;> rfl

/-! ## SUB after ADD (R326) -/

/-- The sum less its second operand, in the integers: a, or a - 256 where the sum carried. -/
theorem add8_sub_toNat (a b : Byte) :
    ((Machine.add8 a b false).1.toNat : Int) - b.toNat =
      a.toNat - (if (Machine.add8 a b false).2.c then 256 else 0) := by
  have := a.isLt
  have := b.isLt
  simp only [Machine.add8, BitVec.toNat_ofNat, Bool.toNat_false, decide_eq_true_eq]
  split <;> omega

/-- Taking 256 off a byte leaves the byte, and is what makes the difference negative. -/
theorem ofInt_sub_carry (a : Byte) (c : Bool) :
    BitVec.ofInt 8 (a.toNat - if c then 256 else 0) = a ∧
      decide ((a.toNat : Int) - (if c then 256 else 0) < 0) = c := by
  have := a.isLt
  cases c with
  | true =>
    refine ⟨BitVec.eq_of_toNat_eq ?_, decide_eq_true ?_⟩
    · simp only [BitVec.toNat_ofInt, if_true]
      omega
    · simp only [if_true]
      omega
  | false => exact ⟨by simp, by simp⟩

theorem add8_h (a b : Byte) (c : Bool) :
    (Machine.add8 a b c).2.h = (a ^^^ b ^^^ (Machine.add8 a b c).1).getLsbD 4 := rfl

theorem sub8_h (a b : Byte) (c : Bool) :
    (Machine.sub8 a b c).2.h = (a ^^^ b ^^^ (Machine.sub8 a b c).1).getLsbD 4 := rfl

/-- Settles O18: the difference is a, less 256 where the sum carried (`add8_sub_toNat`), so that the byte
and C are as before; H is bit 4 of the same three bytes. -/
theorem addSubtractRoundTrip : Obligations.AddSubtractRoundTrip := by
  intro a b
  obtain ⟨value, borrow⟩ := ofInt_sub_carry a (Machine.add8 a b false).2.c
  rw [← add8_sub_toNat a b] at value borrow
  have back : (Machine.sub8 (Machine.add8 a b false).1 b false).1 = a := by
    simpa [Machine.sub8] using value
  refine ⟨back, by simpa [Machine.sub8] using borrow, ?_⟩
  rw [sub8_h, add8_h, back]
  congr 1
  ac_rfl

end Sys2Proof
end

section
/-! PROOFS. The statements of 44_general_cpu_control.md: DAA, CPL, NEG, CCF and SCF (O19), NOP, HALT, DI,
EI and IM 2 (O20), and the fault of IM 0 and IM 1 (O21). -/

namespace Sys2Proof

open Machine Spec

/-! ## Flags in the spec's mask form (R330, R331, R333, R334) -/

theorem and_C4_eq_flagMasks (f : Byte) :
    f &&& 0xC4 = flagMask (f.getLsbD 7) 0x80 ||| flagMask (f.getLsbD 6) 0x40 |||
      flagMask (f.getLsbD 2) 0x04 :=
  byte_forall (p := fun f => f &&& 0xC4 = flagMask (f.getLsbD 7) 0x80 |||
    flagMask (f.getLsbD 6) 0x40 ||| flagMask (f.getLsbD 2) 0x04) (by decide +kernel) f

/-- S, Z and PV kept, Y and X from a byte, and the other three flags given. -/
theorem toByte_keepSZPV (f v : Byte) (h n c : Bool) :
    Flags.toByte { Flags.ofByte f with y := v.getLsbD 5, x := v.getLsbD 3, h := h, n := n, c := c } =
      (f &&& 0xC4) ||| (v &&& 0x28) ||| mask h 0x10 ||| mask n 0x02 ||| mask c 0x01 := by
  rw [and_C4_eq_flagMasks, and_28_eq_masks]
  simp only [Flags.toByte, Flags.ofByte, flagMask, mask]
  ac_rfl

theorem mask_two (f : Byte) : mask (f.getLsbD 1) 0x02 = f &&& 0x02 :=
  byte_forall (p := fun f => mask (f.getLsbD 1) 0x02 = f &&& 0x02) (by decide +kernel) f

/-- DAA's C: an old carry is itself a ground of the high correction, so that C is that ground. -/
theorem toByte_daa8 (a f : Byte) :
    Prod.map id Flags.toByte (daa8 a (Flags.ofByte f)) = daa a f := by
  refine Prod.ext rfl ((toByte_szxy_with _ _ (parity _) _ _).trans ?_)
  simp only [daa, Spec.szxyp, ← mask_two, Flags.ofByte, ← Bool.or_assoc, Bool.or_self]
  ac_rfl

theorem toByte_cpl8 (s : State) :
    Prod.map id Flags.toByte (cpl8 s.a s.flags) =
      (s.a ^^^ 0xFF, (s.f &&& 0xC5) ||| 0x12 ||| ((s.a ^^^ 0xFF) &&& 0x28)) := by
  have kept : s.f &&& 0xC5 = (s.f &&& 0xC4) ||| (s.f &&& 0x01) :=
    BitVec.and_or_distrib_left (x := s.f) (y := 0xC4) (z := 0x01)
  have setBits : (0x12 : Byte) = 0x10 ||| 0x02 := rfl
  refine Prod.ext rfl ((toByte_keepSZPV s.f (s.a ^^^ 0xFF) true true s.flags.c).trans ?_)
  rw [kept, setBits, mask_flags_c]
  simp only [mask, if_true]
  ac_rfl

theorem toByte_ccfFlags (s : State) :
    (ccfFlags s.a s.flags).toByte =
      (s.f &&& 0xC4) ||| (s.a &&& 0x28) ||| mask (carry s) 0x10 ||| mask (!carry s) 0x01 := by
  refine (toByte_keepSZPV s.f s.a (carry s) false (!carry s)).trans ?_
  simp [mask]

theorem toByte_scfFlags (s : State) :
    (scfFlags s.a s.flags).toByte = (s.f &&& 0xC4) ||| (s.a &&& 0x28) ||| 0x01 := by
  refine (toByte_keepSZPV s.f s.a false false true).trans ?_
  simp [mask]

/-! ## A and F written (R330 to R334) -/

section
variable {i : Instr} {s : State} {n : Nat}

/-- A and F written with a result and its flags: DAA, CPL and NEG. -/
theorem completes_setAF {res : Byte × Flags} {p : Byte × Byte}
    (value : Prod.map id Flags.toByte res = p)
    (meaning : exec i s = .next ((s.setAF res).setCycles n)) :
    Completes i s [.a, .f, .cycles] [] fun t => (t.a, t.f) = p ∧ t.cycles = n :=
  completes_of_exec meaning rfl (((SameExcept.self s).setAF (by simp)).setCycles (by simp))
    ⟨(setAF_values s res).trans value, rfl⟩

/-- F alone written: CCF and SCF. -/
theorem completes_setFlags {f : Flags} {v : Byte} (value : f.toByte = v)
    (meaning : exec i s = .next ((s.setFlags f).setCycles n)) :
    Completes i s [.f, .cycles] [] fun t => t.f = v ∧ t.cycles = n :=
  completes_of_exec meaning rfl (((SameExcept.self s).setFlags (by simp)).setCycles (by simp))
    ⟨(State.f_setFlags s f).trans value, rfl⟩

end

theorem completes_cpl (s : State) :
    Completes .cpl s [.a, .f, .cycles] [] fun t =>
      t.a = s.a ^^^ 0xFF ∧ t.f = (s.f &&& 0xC5) ||| 0x12 ||| (t.a &&& 0x28) ∧ t.cycles = 4 := by
  refine (completes_setAF (toByte_cpl8 s) rfl).imp fun t _ ⟨values, hc⟩ => ?_
  obtain ⟨ha, hf⟩ := Prod.mk.inj values
  exact ⟨ha, ha ▸ hf, hc⟩

/-- Settles O19: each instruction writes the result and flag record of its operation, whose flag byte is
the spec's (`toByte_daa8`, `toByte_cpl8`, `toByte_sub8`, `toByte_ccfFlags`, `toByte_scfFlags`). -/
theorem accumulatorAdjust : Obligations.AccumulatorAdjust :=
  ⟨fun s => ⟨rfl, completes_setAF (toByte_daa8 s.a s.f) rfl⟩,
    fun s => ⟨rfl, completes_cpl s⟩,
    fun s => ⟨rfl, completes_setAF (toByte_sub8 0 s.a false) rfl⟩,
    fun s => ⟨rfl, completes_setFlags (toByte_ccfFlags s) rfl⟩,
    fun s => ⟨rfl, completes_setFlags (toByte_scfFlags s) rfl⟩⟩

/-! ## The interrupt mode, the enables and the latches (R335 to R338, R341) -/

/-- A write of the CPU's control latches: of IM, IFF1, IFF2, HALTED and EI_SHADOW, each is listed as
changed or keeps its value. -/
theorem frame_setControl {changed : List Part} {s : State} {im : IntMode}
    {iff1 iff2 halted shadow : Bool} {n : Nat}
    (him : .im ∈ changed ∨ im = s.im := by simp)
    (h1 : .iff1 ∈ changed ∨ iff1 = s.iff1 := by simp)
    (h2 : .iff2 ∈ changed ∨ iff2 = s.iff2 := by simp)
    (hh : .halted ∈ changed ∨ halted = s.halted := by simp)
    (he : .eiShadow ∈ changed ∨ shadow = s.eiShadow := by simp)
    (hc : .cycles ∈ changed := by simp) :
    SameExcept changed s { s with
      im := im, iff1 := iff1, iff2 := iff2, halted := halted, eiShadow := shadow, cycles := n } := by
  intro p hp
  cases p with
  | im => exact him.resolve_left hp
  | iff1 => exact h1.resolve_left hp
  | iff2 => exact h2.resolve_left hp
  | halted => exact hh.resolve_left hp
  | eiShadow => exact he.resolve_left hp
  | cycles => exact absurd hc hp
  | hist | machine => exact ⟨rfl, rfl⟩
  | io => exact ⟨rfl, rfl, rfl⟩
  | _ => rfl

/-- Settles O20: NOP writes the cycles only, and the others write control latches (`frame_setControl`). -/
theorem controlInstructions : Obligations.ControlInstructions :=
  ⟨fun s => ⟨rfl, completes_of_exec rfl rfl (frame_setCycles s 4) rfl⟩,
    fun s => ⟨rfl, completes_of_exec rfl rfl frame_setControl ⟨rfl, rfl⟩⟩,
    fun s => ⟨rfl, completes_of_exec rfl rfl frame_setControl ⟨rfl, rfl, rfl⟩⟩,
    fun s => ⟨rfl, completes_of_exec rfl rfl frame_setControl ⟨rfl, rfl, rfl, rfl⟩⟩,
    fun s => ⟨rfl, completes_of_exec rfl rfl frame_setControl ⟨rfl, rfl⟩⟩⟩

/-! ## The fault of IM 0 and IM 1 (R339, R340, R530) -/

theorem exec_legacyMode {i : Instr} (legacy : i = .im_0 ∨ i = .im_1) (s : State) :
    exec i s = .fault (.unsupportedInterruptMode (s.pc - 2)) := by
  rcases legacy with rfl | rfl <;> rfl

theorem encode_length_legacyMode {i : Instr} (legacy : i = .im_0 ∨ i = .im_1) :
    (encode i).length = 2 := by
  rcases legacy with rfl | rfl <;> rfl

/-- A step that fetches IM 0 or IM 1 faults: two bytes back from the pc after the fetch is the pc that the
step began at. -/
theorem step_legacyMode {s u : State} {i : Instr} (legacy : i = .im_0 ∨ i = .im_1) (on : ready s)
    (running : s.halted = false) (h : fetch s = .ok (i, u)) :
    step s = .fault (.unsupportedInterruptMode s.pc) := by
  obtain ⟨past, -⟩ := fetchAndOperands.2.1 s u i h
  rw [encode_length_legacyMode legacy] at past
  obtain ⟨rest, hd, rfl⟩ := fetch_eq_ok_iff.mp h
  rw [stepRunsDecoded s i rest on running hd, exec_legacyMode legacy]
  have start : (afterFetch (4 - rest.length) (histWrite { s with inv := false })).pc - 2 = s.pc :=
    (congrArg (· - 2) past).trans (BitVec.add_sub_cancel _ _)
  simp only [start]

/-- A step that faults keeps nothing: the host records the fault in the state from before it. -/
theorem stepOneInstruction_of_fault {s : State} {pc : Word}
    (h : step s = .fault (.unsupportedInterruptMode pc)) :
    stepOneInstruction s =
      .ok ({ s with faulted := some pc }, .fault (.unsupportedInterruptMode pc)) := by
  unfold stepOneInstruction
  rw [h]

/-- Settles O21: the two bytes of the fetch are what `exec` takes off pc again (`step_legacyMode`). -/
theorem legacyInterruptModes : Obligations.LegacyInterruptModes := by
  refine ⟨rfl, rfl, fun s => ⟨exec_legacyMode (.inl rfl) s, exec_legacyMode (.inr rfl) s⟩,
    fun s u i legacy on running h => ?_⟩
  have faults := step_legacyMode legacy on running h
  exact ⟨faults, stepOneInstruction_of_fault faults⟩

end Sys2Proof
end

section
/-! PROOFS. The statements of 45_alu16.md: the 16-bit additions and subtractions (O22), and INC and DEC of
a pair or an index register (O23). -/

namespace Sys2Proof

open Machine Spec

/-! ## 16-bit results and flags in the spec's mask form (R359)

The meanings take the flag bits from the 16-bit result, the spec from its high byte. -/

theorem or_mask_false (v m : Byte) : v ||| mask false m = v := BitVec.or_zero

theorem mask_true (m : Byte) : mask true m = m := rfl

theorem getLsbD_hi (w : Word) {k : Nat} (inByte : k < 8) : (hi w).getLsbD k = w.getLsbD (8 + k) := by
  simp [hi, inByte]

/-- H is bit 12 of a word. -/
theorem hi_and_10_eq_mask (w : Word) : hi w &&& 0x10 = mask (w.getLsbD 12) 0x10 :=
  (and_10_eq_mask (hi w)).trans (congrArg (mask · 0x10) (getLsbD_hi w (by decide)))

/-- PV of Adc16 and Sbc16 is bit 15 of a word. -/
theorem and_8000_bne_zero (w : Word) : (w &&& 0x8000 != 0) = w.getLsbD 15 := by
  have single : w &&& 0x8000 = if w.getLsbD 15 then 0x8000 else 0 := BitVec.and_twoPow w 15
  rw [single]
  cases w.getLsbD 15 <;> rfl

theorem and_A8_eq_masks (v : Byte) :
    v &&& 0xA8 = mask (v.getLsbD 7) 0x80 ||| mask (v.getLsbD 5) 0x20 ||| mask (v.getLsbD 3) 0x08 :=
  byte_forall (p := fun v => v &&& 0xA8 = mask (v.getLsbD 7) 0x80 ||| mask (v.getLsbD 5) 0x20 |||
    mask (v.getLsbD 3) 0x08) (by decide +kernel) v

/-- S, Y and X from the high byte of a word, and the other five flags given. -/
theorem toByte_syx_hi (w : Word) (z h pv n c : Bool) :
    Flags.toByte (xyOfHigh w ⟨w.getLsbD 15, z, false, h, false, pv, n, c⟩) =
      (hi w &&& 0xA8) ||| mask z 0x40 ||| mask h 0x10 ||| mask pv 0x04 ||| mask n 0x02 |||
        mask c 0x01 := by
  rw [and_A8_eq_masks, getLsbD_hi w (by decide), getLsbD_hi w (by decide), getLsbD_hi w (by decide)]
  simp only [Flags.toByte, xyOfHigh, flagMask, mask]
  ac_rfl

/-- Y and X from the high byte of a word, S, Z and PV kept, and the other three flags given. -/
theorem toByte_keepSZPV_hi (f : Byte) (w : Word) (h n c : Bool) :
    Flags.toByte (xyOfHigh w { Flags.ofByte f with h := h, n := n, c := c }) =
      (f &&& 0xC4) ||| (hi w &&& 0x28) ||| mask h 0x10 ||| mask n 0x02 ||| mask c 0x01 := by
  rw [← toByte_keepSZPV, getLsbD_hi w (by decide), getLsbD_hi w (by decide)]
  rfl

theorem toByte_add16 (a b : Word) (f : Byte) :
    Prod.map id Flags.toByte (Machine.add16 a b (Flags.ofByte f)) = Spec.add16 a b f := by
  refine Prod.ext rfl ((toByte_keepSZPV_hi f _ _ false _).trans ?_)
  simp only [Spec.add16, hi_and_10_eq_mask, or_mask_false]
  ac_rfl

theorem toByte_adc16 (a b : Word) (c : Bool) :
    Prod.map id Flags.toByte (Machine.adc16 a b c) = Spec.adc16 a b c := by
  refine Prod.ext rfl ((toByte_syx_hi _ _ _ _ false _).trans ?_)
  simp only [Spec.adc16, hi_and_10_eq_mask, and_8000_bne_zero, or_mask_false]

theorem toByte_sbc16 (a b : Word) (c : Bool) :
    Prod.map id Flags.toByte (Machine.sbc16 a b c) = Spec.sbc16 a b c := by
  refine Prod.ext rfl ((toByte_syx_hi _ _ _ _ true _).trans ?_)
  simp only [Spec.sbc16, hi_and_10_eq_mask, and_8000_bne_zero, mask_true]

/-! ## The 16-bit additions and subtractions (R360 to R363) -/

section
variable {i : Instr} {s : State} {res : Word × Flags} {p : Word × Byte} {wz : Word} {n : Nat}
  (value : Prod.map id Flags.toByte res = p)
include value

/-- HL and F written with a result and its flags, after a write of WZ. -/
theorem completes_writeHlFlags
    (meaning : exec i s =
      .next ((((s.setWZ wz).setPairSS .hl res.1).setFlags res.2).setCycles n)) :
    Completes i s [.h, .l, .f, .wz, .cycles] [] fun t =>
      (t.hl, t.f) = p ∧ t.wz = wz ∧ t.cycles = n :=
  completes_of_exec meaning rfl
    (SameExcept.self s |>.setWZ (by decide) |>.setPairSS (by decide) |>.setFlags (by decide)
      |>.setCycles (by decide))
    ⟨(congrArg (Prod.mk res.1) (State.f_setFlags _ _)).trans value, rfl, rfl⟩

/-- An index register and F written with a result and its flags, after a write of WZ. -/
theorem completes_writeIdxPairFlags {x : Idx}
    (meaning : exec i s = .next ((((s.setWZ wz).setIdx x res.1).setFlags res.2).setCycles n)) :
    Completes i s (.f :: .wz :: .cycles :: partsIdx x) [] fun t =>
      (t.idx x, t.f) = p ∧ t.wz = wz ∧ t.cycles = n :=
  completes_of_exec meaning (by simp)
    (SameExcept.self s |>.setWZ (by simp) |>.setIdx (fun _ m => by simp [m]) |>.setFlags (by simp)
      |>.setCycles (by simp))
    (by simp [← value, Prod.map])

end

/-- Settles O22: each form writes `add16`, `adc16` or `sbc16` of the old values (`toByte_add16`,
`toByte_adc16`, `toByte_sbc16`). -/
theorem sixteenBitArithmetic : Obligations.SixteenBitArithmetic := by
  refine ⟨fun p s => ⟨?_, completes_writeHlFlags (toByte_add16 _ _ s.f) (exec_addHlPair p s)⟩,
    fun p s => ⟨?_, completes_writeHlFlags (toByte_adc16 _ _ (carry s)) (exec_adcHlPair p s)⟩,
    fun p s => ⟨?_, completes_writeHlFlags (toByte_sbc16 _ _ (carry s)) (exec_sbcHlPair p s)⟩,
    fun x p s =>
      ⟨?_, completes_writeIdxPairFlags (toByte_add16 _ _ s.f) (exec_addIdxPair x p s)⟩⟩
  · cases p <;> rfl
  · cases p <;> rfl
  · cases p <;> rfl
  · cases x <;> cases p <;> rfl

/-! ## INC and DEC of a pair and of an index register (R364 to R367) -/

/-- A write of an index register that leaves WZ alone. -/
theorem completes_writeIdx {i : Instr} {s : State} {x : Idx} {v : Word} {n : Nat}
    (meaning : exec i s = .next ((s.setIdx x v).setCycles n)) :
    Completes i s (.cycles :: partsIdx x) [] fun t => t.idx x = v ∧ t.cycles = n :=
  completes_of_exec meaning (by simp)
    (SameExcept.self s |>.setIdx (fun _ m => by simp [m]) |>.setCycles (by simp)) (by simp)

/-- Settles O23: each form writes its pair with the old value stepped by 1, as a load of a pair does
(`completes_loadPair`, `completes_writeIdx`). -/
theorem incrementDecrementPairs : Obligations.IncrementDecrementPairs := by
  refine ⟨fun p s => ⟨?_, completes_loadPair (exec_incPair p s)⟩,
    fun p s => ⟨?_, completes_loadPair (exec_decPair p s)⟩,
    fun x s => ⟨?_, completes_writeIdx (exec_incIdx16 x s)⟩,
    fun x s => ⟨?_, completes_writeIdx (exec_decIdx16 x s)⟩⟩
  · cases p <;> rfl
  · cases p <;> rfl
  · cases x <;> rfl
  · cases x <;> rfl

end Sys2Proof
end

section
/-! PROOFS. The statements of 46_rotate_shift.md: the accumulator rotates (O24), the CB rotates and shifts
on every operand form (O25), eight RLC of a register (O26), and RLD and RRD (O27). -/

namespace Sys2Proof

open Machine Spec

-- One elaboration after another: each thread of many at once takes memory for its stack.
set_option Elab.async false

/-! ## Results and flags in the spec's mask form (R384)

The meanings shift and set the bit shifted in, the spec writes that bit beside the seven that stay. -/

theorem shiftLeft_or_flagMask (v : Byte) (b : Bool) :
    (v <<< 1) ||| flagMask b 0x01 = (v.extractLsb' 0 7 ++ BitVec.ofBool b : BitVec 8) :=
  byte_forall (p := fun v => ∀ b : Bool, (v <<< 1) ||| flagMask b 0x01 =
    (v.extractLsb' 0 7 ++ BitVec.ofBool b : BitVec 8)) (by decide +kernel) v b

theorem shiftRight_or_flagMask (v : Byte) (b : Bool) :
    (v >>> 1) ||| flagMask b 0x80 = (BitVec.ofBool b ++ v.extractLsb' 1 7 : BitVec 8) :=
  byte_forall (p := fun v => ∀ b : Bool, (v >>> 1) ||| flagMask b 0x80 =
    (BitVec.ofBool b ++ v.extractLsb' 1 7 : BitVec 8)) (by decide +kernel) v b

theorem ofBool_getLsbD (v : Byte) (k : Nat) : BitVec.ofBool (v.getLsbD k) = v.extractLsb' k 1 := by
  ext i hi
  obtain rfl : i = 0 := by omega
  simp

/-- The two forms of `Rot(k, v)` agree. -/
theorem rot_eq_spec (k : RotOp) (v : Byte) (c : Bool) : Machine.rot k v c = Spec.rot k v c := by
  cases k with
  | rl => exact Prod.ext (shiftLeft_or_flagMask v c) rfl
  | rr => exact Prod.ext (shiftRight_or_flagMask v c) rfl
  | sll => exact Prod.ext (shiftLeft_or_flagMask v true) rfl
  | sla => exact Prod.ext (BitVec.or_zero.symm.trans (shiftLeft_or_flagMask v false)) rfl
  | srl => exact Prod.ext (BitVec.or_zero.symm.trans (shiftRight_or_flagMask v false)) rfl
  | rlc => simp only [Machine.rot, Spec.rot, shiftLeft_or_flagMask, ofBool_getLsbD]
  | rrc | sra => simp only [Machine.rot, Spec.rot, shiftRight_or_flagMask, ofBool_getLsbD]

/-- S, Z, Y, X and parity from a byte, H and N reset, and C given. -/
theorem toByte_szxyp_with_c (v : Byte) (c : Bool) :
    Flags.toByte { Machine.szxyp v with c := c } = Spec.szxyp v ||| mask c 0x01 := by
  refine (toByte_szxy_with v false (parity v) false c).trans ?_
  simp only [Spec.szxyp, or_mask_false]

/-- An accumulator rotate: the result and the preserve form. -/
theorem toByte_rotPreserve (k : RotOp) (s : State) :
    Prod.map id Flags.toByte (rotResult k s.a s,
        rotPreserve (rotResult k s.a s) (Machine.rot k s.a s.flags.c).2 s.flags) =
      ((Spec.rot k s.a (carry s)).1, rotKeep (Spec.rot k s.a (carry s)) s.f) := by
  rw [← rot_eq_spec]
  refine Prod.ext rfl ((toByte_keepSZPV s.f _ false false _).trans ?_)
  simp only [or_mask_false]
  rfl

/-- A CB rotate or shift: the result and the recompute form. -/
theorem toByte_rotFlags (k : RotOp) (v : Byte) (s : State) :
    Prod.map id Flags.toByte (rotResult k v s, rotFlags k v s) =
      ((Spec.rot k v (carry s)).1, rotFresh (Spec.rot k v (carry s))) := by
  rw [← rot_eq_spec]
  exact Prod.ext rfl (toByte_szxyp_with_c _ _)

/-! ## The accumulator rotates (R380 to R383) -/

/-- Two pieces of the next state said as one pair may be said one by one. -/
theorem Completes.unpair {i : Instr} {s : State} {changed : List Part} {writes : List (Word × Byte)}
    {x y : State → Byte} {v w : Byte} {post : State → Prop}
    (h : Completes i s changed writes fun t => (x t, y t) = (v, w) ∧ post t) :
    Completes i s changed writes fun t => x t = v ∧ y t = w ∧ post t :=
  h.imp fun _ _ ⟨values, rest⟩ => ⟨congrArg Prod.fst values, congrArg Prod.snd values, rest⟩

theorem completes_rotA {i : Instr} {k : RotOp} {s : State} (meaning : exec i s = .next (rotA k s)) :
    Completes i s [.a, .f, .cycles] [] fun t =>
      t.a = (Spec.rot k s.a (carry s)).1 ∧ t.f = rotKeep (Spec.rot k s.a (carry s)) s.f ∧
        t.cycles = 4 :=
  (completes_setAF (toByte_rotPreserve k s) meaning).unpair

/-- Settles O24: each instruction is `rotA` of its rotate (`toByte_rotPreserve`). -/
theorem accumulatorRotates : Obligations.AccumulatorRotates :=
  ⟨fun _ => ⟨rfl, completes_rotA rfl⟩, fun _ => ⟨rfl, completes_rotA rfl⟩,
    fun _ => ⟨rfl, completes_rotA rfl⟩, fun _ => ⟨rfl, completes_rotA rfl⟩⟩

/-! ## The CB rotates and shifts (R385 to R393) -/

theorem completes_rotReg (k : RotOp) (r : Reg8) (s : State) :
    Completes (Instr.rotReg k r) s [partOf r, .f, .cycles] [] fun t =>
      t.reg8 r = (Spec.rot k (s.reg8 r) (carry s)).1 ∧
        t.f = rotFresh (Spec.rot k (s.reg8 r) (carry s)) ∧ t.cycles = 8 :=
  (completes_writeReg8Flags (toByte_rotFlags k (s.reg8 r) s) (exec_rotReg k r s)).unpair

/-- The copy form: the register takes the byte that memory was given. -/
theorem completes_rotIdxCopy (k : RotOp) (x : Idx) (r : Reg8) (d : Byte) {s : State}
    (w : StateWf s = true) :
    Completes (Instr.rotIdxCopy k x r d) s [.memory, partOf r, .f, .wz, .cycles]
      [(effAddr x d s, (Spec.rot k (s.read8 (effAddr x d s)) (carry s)).1)] fun t =>
        t.reg8 r = (Spec.rot k (s.read8 (effAddr x d s)) (carry s)).1 ∧
          t.f = rotFresh (Spec.rot k (s.read8 (effAddr x d s)) (carry s)) ∧
          t.wz = effAddr x d s ∧ t.cycles = 23 := by
  obtain ⟨result, flags⟩ := Prod.mk.inj (toByte_rotFlags k (s.read8 (effAddr x d s)) s)
  rw [← result, ← flags]
  exact completes_of_exec_write8 w (exec_rotIdxCopy k x r d s) (by simp [rotIdxCopy])
    (SameExcept.self s |>.latchEA (by simp) |>.write8 (by simp) |>.setReg8 (by simp)
      |>.setFlags (by simp) |>.setCycles (by simp))
    (by simp [rotIdxCopy])

/-- Settles O25: each form writes `rotResult` and `rotFlags` of its operand (`toByte_rotFlags`). -/
theorem rotateShift : Obligations.RotateShift := by
  refine ⟨fun k r s => ⟨?_, completes_rotReg k r s⟩, fun s w =>
    ⟨fun k => ⟨?_, completes_writeByteFlags w (toByte_rotFlags k _ s) (exec_rotMem k s)⟩,
      fun k x d => ⟨?_, completes_writeIdxFlags w (toByte_rotFlags k _ s) (exec_rotIdx k x d s)⟩,
      fun k x r d => ⟨?_, completes_rotIdxCopy k x r d w⟩⟩⟩
  · cases k <;> cases r <;> rfl
  · cases k <;> rfl
  · cases k <;> cases x <;> rfl
  · cases k <;> cases x <;> cases r <;> rfl

/-! ## Eight RLC of a register (R386) -/

/-- n RLC of a register, one after the other. -/
def rlcTimes (r : Reg8) (n : Nat) (s : State) : State :=
  match n with
  | 0 => s
  | n + 1 => Machine.rotReg .rlc r (rlcTimes r n s)

theorem exec_rlcTimes (r : Reg8) (n : Nat) (s : State) :
    exec (Instr.rotReg .rlc r) (rlcTimes r n s) = .next (rlcTimes r (n + 1) s) :=
  exec_rotReg .rlc r (rlcTimes r n s)

/-- RLC moves bit k to bit k + 1, and bit 7 to bit 0. -/
theorem getLsbD_rot_rlc (v : Byte) (c : Bool) {k : Nat} (inByte : k < 8) :
    (Machine.rot .rlc v c).1.getLsbD ((k + 1) % 8) = v.getLsbD k :=
  byte_forall (p := fun v => ∀ k < 8, (Machine.rot .rlc v c).1.getLsbD ((k + 1) % 8) = v.getLsbD k)
    (by cases c <;> decide +kernel) v k inByte

theorem reg8_rotReg (k : RotOp) (r : Reg8) (s : State) :
    (Machine.rotReg k r s).reg8 r = (Machine.rot k (s.reg8 r) s.flags.c).1 := by
  simp only [Machine.rotReg, rotResult, State.reg8_setCycles, State.reg8_setFlags,
    State.reg8_setReg8]

theorem carry_rotReg (k : RotOp) (r : Reg8) (s : State) :
    carry (Machine.rotReg k r s) = (Machine.rot k (s.reg8 r) s.flags.c).2 := by
  have flags : (Machine.rotReg k r s).flags = rotFlags k (s.reg8 r) s := by
    simp only [Machine.rotReg, State.flags_setCycles, State.flags_setFlags]
  exact congrArg Flags.c flags

/-- n RLC move each bit n places up, round the byte. -/
theorem getLsbD_rlcTimes (r : Reg8) (s : State) {k : Nat} (inByte : k < 8) (n : Nat) :
    ((rlcTimes r n s).reg8 r).getLsbD ((k + n) % 8) = (s.reg8 r).getLsbD k := by
  induction n with
  | zero => rw [Nat.add_zero, Nat.mod_eq_of_lt inByte, rlcTimes]
  | succ n ih =>
    have next : (k + (n + 1)) % 8 = ((k + n) % 8 + 1) % 8 := by omega
    rw [next, rlcTimes, reg8_rotReg, getLsbD_rot_rlc _ _ (Nat.mod_lt _ (by decide)), ih]

theorem reg8_rlcTimes_eight (r : Reg8) (s : State) : (rlcTimes r 8 s).reg8 r = s.reg8 r := by
  refine BitVec.eq_of_getLsbD_eq fun k inByte => ?_
  have moved := getLsbD_rlcTimes r s inByte 8
  rwa [Nat.add_mod_right, Nat.mod_eq_of_lt inByte] at moved

/-- C is the bit 7 that the last RLC found, where the seven before it had put bit 0. -/
theorem carry_rlcTimes_eight (r : Reg8) (s : State) :
    carry (rlcTimes r 8 s) = (s.reg8 r).getLsbD 0 :=
  (carry_rotReg .rlc r (rlcTimes r 7 s)).trans (getLsbD_rlcTimes r s (by decide : 0 < 8) 7)

/-- Settles O26: the states are those after 1 to 8 RLC, and each moves every bit one place round
(`getLsbD_rlcTimes`). -/
theorem eightRotations : Obligations.EightRotations := fun r s =>
  ⟨_, _, _, _, _, _, _, _, exec_rlcTimes r 0 s, exec_rlcTimes r 1 s, exec_rlcTimes r 2 s,
    exec_rlcTimes r 3 s, exec_rlcTimes r 4 s, exec_rlcTimes r 5 s, exec_rlcTimes r 6 s,
    exec_rlcTimes r 7 s, reg8_rlcTimes_eight r s, carry_rlcTimes_eight r s⟩

/-! ## RLD and RRD (R395, R396) -/

/-- The end of RLD and RRD, whatever the two new bytes are. -/
theorem completes_digitRotate {i : Instr} {s : State} {mem acc : Byte} (w : StateWf s = true)
    (meaning : exec i s = .next (digitRotate mem acc s)) :
    Completes i s [.memory, .a, .f, .wz, .cycles] [(s.hl, mem)] fun t =>
      t.a = acc ∧ t.f = Spec.szxyp t.a ||| (s.f &&& 0x01) ∧ t.wz = s.hl + 1 ∧ t.cycles = 18 := by
  refine completes_of_exec_write8 w meaning rfl
    (SameExcept.self s |>.write8 (by simp) |>.setAF (by simp) |>.setWZ (by simp)
      |>.setCycles (by simp)) ?_
  have a : (digitRotate mem acc s).a = acc := State.a_setAF (s.write8 s.hl mem) _
  have f : (digitRotate mem acc s).f = Spec.szxyp acc ||| (s.f &&& 0x01) := by
    rw [← mask_flags_c, ← toByte_szxyp_with_c]
    exact State.f_setAF (s.write8 s.hl mem) _
  exact ⟨a, a.symm ▸ f, rfl, rfl⟩

/-- Settles O27: both end in `digitRotate`, with the digits at HL and in A put together anew. -/
theorem digitRotates : Obligations.DigitRotates :=
  ⟨rfl, rfl, fun _ w => ⟨completes_digitRotate w rfl, completes_digitRotate w rfl⟩⟩

end Sys2Proof
end

section
/-! PROOFS. The statements of 47_bit.md: BIT on every operand form (O28), and SET and RES on every operand
form (O29). -/

namespace Sys2Proof

open Machine Spec

-- One elaboration after another: each thread of many at once takes memory for its stack.
set_option Elab.async false

/-! ## BIT (R400 to R402) -/

/-- BIT's flag record in the spec's mask form: Z and PV are one flag twice, under one mask. -/
theorem toByte_bitFlags (b : Nat) (v src : Byte) (s : State) :
    (bitFlags b v src s.flags).toByte = bitTest b v src s.f := by
  have zeroAndParity (z : Bool) : mask z 0x44 = mask z 0x40 ||| mask z 0x04 := by cases z <;> rfl
  rw [bitTest, zeroAndParity, and_28_eq_masks, ← mask_flags_c]
  simp only [Flags.toByte, bitFlags, flagMask, mask, if_true, Bool.false_eq_true, if_false]
  ac_rfl

/-- BIT of a memory byte at (XY+d): the latch comes first, so that W is the high byte of the address. -/
theorem completes_bitIdx (b z : Field3) (x : Idx) (d : Byte) (s : State) :
    Completes (Instr.bitIdx b x z d) s [.f, .wz, .cycles] [] fun t =>
      t.f = bitTest b.value (s.read8 (effAddr x d s)) (hi (effAddr x d s)) s.f ∧
        t.wz = effAddr x d s ∧ t.cycles = 20 :=
  completes_of_exec (exec_bitIdx b x z d s) rfl
    (SameExcept.self s |>.latchEA (by simp) |>.setFlags (by simp) |>.setCycles (by simp))
    ⟨(State.f_setFlags (latchEA x d s) _).trans (toByte_bitFlags _ _ _ s), rfl, rfl⟩

/-- Settles O28: each form writes `bitFlags` of its operand (`toByte_bitFlags`). -/
theorem bitTest : Obligations.BitTest := by
  refine ⟨fun b r s => ⟨?_, completes_setFlags (toByte_bitFlags _ _ _ s) (exec_bitReg b r s)⟩,
    fun b s => ⟨?_, completes_setFlags (toByte_bitFlags _ _ _ s) (exec_bitMem b s)⟩,
    fun b z x d s => ⟨?_, completes_bitIdx b z x d s⟩⟩
  · cases b <;> cases r <;> rfl
  · cases b <;> rfl
  · cases b <;> cases x <;> cases z <;> rfl

/-! ## SET and RES (R403, R404)

`g` is the change of the byte: `setBit b` or `resBit b`. -/

section
variable {i : Instr} {s : State} {g : Byte → Byte} {x : Idx} {d : Byte} (w : StateWf s = true)
include w

/-- A byte changed at (XY+d). -/
theorem completes_modifyIdx (meaning : exec i s = .next ((modifyIdx g x d s).setCycles 23)) :
    Completes i s [.memory, .wz, .cycles] [(effAddr x d s, g (s.read8 (effAddr x d s)))] fun t =>
      t.wz = effAddr x d s ∧ t.cycles = 23 :=
  completes_of_exec_write8 w meaning rfl
    (SameExcept.self s |>.latchEA (by simp) |>.write8 (by simp) |>.setCycles (by simp)) ⟨rfl, rfl⟩

/-- A byte changed at (XY+d) and copied: the register takes the byte that memory was given (R385). -/
theorem completes_modifyIdxCopy {r : Reg8}
    (meaning : exec i s = .next ((modifyIdxCopy g x r d s).setCycles 23)) :
    Completes i s [.memory, partOf r, .wz, .cycles]
      [(effAddr x d s, g (s.read8 (effAddr x d s)))] fun t =>
        t.reg8 r = g (s.read8 (effAddr x d s)) ∧ t.wz = effAddr x d s ∧ t.cycles = 23 :=
  completes_of_exec_write8 w meaning (by simp [modifyIdxCopy, modifyIdx])
    (SameExcept.self s |>.latchEA (by simp) |>.write8 (by simp) |>.setReg8 (by simp)
      |>.setCycles (by simp))
    (by simp [modifyIdxCopy, modifyIdx])

end

/-- Settles O29: each form writes `setBit b` or `resBit b` of the byte read, to where it was read, and the
copy forms to the register too (`completes_modifyIdxCopy`). -/
theorem setReset : Obligations.SetReset := by
  refine ⟨fun b r s => ⟨?_, ?_, completes_loadReg8 (exec_setBitReg b r s),
      completes_loadReg8 (exec_resBitReg b r s)⟩, fun b s w =>
    ⟨⟨?_, ?_, completes_storeByte w (exec_setBitMem b s), completes_storeByte w (exec_resBitMem b s)⟩,
      fun x d => ⟨?_, ?_, completes_modifyIdx w (exec_setBitIdx b x d s),
        completes_modifyIdx w (exec_resBitIdx b x d s)⟩,
      fun x r d => ⟨?_, ?_, completes_modifyIdxCopy w (exec_setBitIdxCopy b x r d s),
        completes_modifyIdxCopy w (exec_resBitIdxCopy b x r d s)⟩⟩⟩
  · cases b <;> cases r <;> rfl
  · cases b <;> cases r <;> rfl
  · cases b <;> rfl
  · cases b <;> rfl
  · cases b <;> cases x <;> rfl
  · cases b <;> cases x <;> rfl
  · cases b <;> cases x <;> cases r <;> rfl
  · cases b <;> cases x <;> cases r <;> rfl

end Sys2Proof
end

section
/-! PROOFS. The statements of 48_jump_call_return.md: the jumps (O30), calls and restarts (O31), RET and
RET cc (O32), and RETI and RETN (O33). -/

namespace Sys2Proof

open Machine Spec

/-! ## Both sides of a condition -/

/-- The tests of the meanings are those of the spec on the bits of F (R420). -/
theorem condHolds_eq_condition (cc : Cond) (s : State) : condHolds cc s = condition cc s.f := by
  cases cc <;> rfl

/-- What is said of the next state for each side of a condition may be said by cases. -/
theorem Completes.ite {i : Instr} {s : State} {changed : List Part} {writes : List (Word × Byte)}
    {P Q : State → Prop} {c : Prop} [Decidable c] (yes : c → Completes i s changed writes P)
    (no : ¬c → Completes i s changed writes Q) :
    Completes i s changed writes fun t => if c then P t else Q t := by
  by_cases h : c
  · simpa only [if_pos h] using yes h
  · simpa only [if_neg h] using no h

section
variable {cc : Cond} {s : State} {i : Instr} {t u : State}
  (meaning : exec i s = .next (if condHolds cc s then t else u))
include meaning

theorem exec_of_condition (h : condition cc s.f = true) : exec i s = .next t := by
  rw [meaning, condHolds_eq_condition, if_pos h]

theorem exec_of_not_condition (h : ¬condition cc s.f = true) : exec i s = .next u := by
  rw [meaning, condHolds_eq_condition, if_neg h]

end

/-! ## Jumps (R421 to R427) -/

/-- A jump that latches its target, or an untaken one, with pc and WZ as they were. -/
theorem completes_jump {i : Instr} {s : State} {pc wz : Word} {n : Nat}
    (meaning : exec i s = .next (((s.setPC pc).setWZ wz).setCycles n)) :
    Completes i s [.pc, .wz, .cycles] [] fun t => t.pc = pc ∧ t.wz = wz ∧ t.cycles = n :=
  completes_of_exec meaning rfl
    (SameExcept.self s |>.setPC (by simp) |>.setWZ (by simp) |>.setCycles (by simp)) ⟨rfl, rfl, rfl⟩

/-- A jump through a register leaves WZ alone: JP (HL) and JP (XY). -/
theorem completes_jumpRegister {i : Instr} {s : State} {pc : Word} {n : Nat}
    (meaning : exec i s = .next ((s.setPC pc).setCycles n)) :
    Completes i s [.pc, .cycles] [] fun t => t.pc = pc ∧ t.cycles = n :=
  completes_of_exec meaning rfl
    (SameExcept.self s |>.setPC (by simp) |>.setCycles (by simp)) ⟨rfl, rfl⟩

theorem completes_jpCond (cc : Cond) (nn : Word) (s : State) :
    Completes (Instr.jpCond cc nn) s [.pc, .wz, .cycles] [] fun t =>
      t.pc = (if condition cc s.f then nn else s.pc) ∧ t.wz = nn ∧ t.cycles = 10 := by
  by_cases h : condition cc s.f = true
  · simpa only [if_pos h] using completes_jump (exec_of_condition (exec_jpCond cc nn s) h)
  · simpa only [if_neg h] using completes_jump (exec_of_not_condition (exec_jpCond cc nn s) h)

theorem completes_jrCond (cc : JrCond) (e : Byte) (s : State) :
    Completes (Instr.jrCond cc e) s [.pc, .wz, .cycles] [] fun t =>
      if condition (JrCond.toCond cc) s.f then
        t.pc = relTarget e s ∧ t.wz = relTarget e s ∧ t.cycles = 12
      else t.pc = s.pc ∧ t.wz = s.wz ∧ t.cycles = 7 :=
  .ite (fun h => completes_jump (exec_of_condition (exec_jrCond cc e s) h))
    (fun h => completes_jump (exec_of_not_condition (exec_jrCond cc e s) h))

/-- The two sides of DJNZ, with B counted down on both. -/
theorem completes_countedJump {i : Instr} {s : State} {b : Byte} {pc wz : Word} {n : Nat}
    (meaning : exec i s = .next ((((s.setReg8 .b b).setPC pc).setWZ wz).setCycles n)) :
    Completes i s [.b, .pc, .wz, .cycles] [] fun t =>
      t.reg8 .b = b ∧ t.pc = pc ∧ t.wz = wz ∧ t.cycles = n :=
  completes_of_exec meaning rfl
    (SameExcept.self s |>.setReg8 (r := .b) (by decide) |>.setPC (by simp) |>.setWZ (by simp)
      |>.setCycles (by simp))
    ⟨State.reg8_setReg8 s .b b, rfl, rfl, rfl⟩

theorem djnz_eq (e : Byte) (s : State) :
    djnz e s =
      if s.reg8 .b - 1 ≠ 0 then
        (((s.setReg8 .b (s.reg8 .b - 1)).setPC (relTarget e s)).setWZ (relTarget e s)).setCycles 13
      else (s.setReg8 .b (s.reg8 .b - 1)).setCycles 8 := by
  simp only [djnz, State.reg8_setReg8, bne_iff_ne]
  rfl

theorem completes_djnz (e : Byte) (s : State) :
    Completes (.djnz_e e) s [.b, .pc, .wz, .cycles] [] fun t =>
      t.reg8 .b = s.reg8 .b - 1 ∧
        if s.reg8 .b - 1 ≠ 0 then t.pc = relTarget e s ∧ t.wz = relTarget e s ∧ t.cycles = 13
        else t.pc = s.pc ∧ t.wz = s.wz ∧ t.cycles = 8 := by
  have meaning : exec (.djnz_e e) s = .next (djnz e s) := rfl
  rw [djnz_eq] at meaning
  by_cases h : s.reg8 .b - 1 ≠ 0
  · rw [if_pos h] at meaning
    simpa only [if_pos h] using completes_countedJump meaning
  · rw [if_neg h] at meaning
    simpa only [if_neg h] using completes_countedJump (pc := s.pc) (wz := s.wz) meaning

/-- Settles O30: a jump writes pc, and WZ unless its target is a register; an untaken one writes them with
their own values. -/
theorem jumps : Obligations.Jumps := by
  refine ⟨fun nn s => ⟨rfl, completes_jump rfl⟩, fun cc nn s => ⟨?_, completes_jpCond cc nn s⟩,
    fun e s => ⟨rfl, completes_jump rfl⟩, fun cc e s => ⟨?_, completes_jrCond cc e s⟩,
    fun s => ⟨rfl, completes_jumpRegister rfl⟩,
    fun x s => ⟨?_, completes_jumpRegister (exec_jpIdx x s)⟩,
    fun e s => ⟨rfl, completes_djnz e s⟩⟩
  · cases cc <;> rfl
  · cases cc <;> rfl
  · cases x <;> rfl

/-! ## Calls and restarts (R428, R429, R434) -/

/-- A call: the push of pc, then a jump that latches its target. -/
theorem completes_call {i : Instr} {s : State} {target : Word} {n : Nat} (w : StateWf s = true)
    (meaning : exec i s =
      .next ((((s.push16 s.pc).setPC target).setWZ target).setCycles n)) :
    Completes i s [.memory, .sp, .pc, .wz, .cycles]
      [(s.sp - 2, lo s.pc), (s.sp - 1, hi s.pc)] fun t =>
        t.pc = target ∧ t.wz = target ∧ t.sp = s.sp - 2 ∧ t.cycles = n :=
  ⟨_, meaning, ⟨rfl, rfl, State.push16_sp s s.pc, rfl⟩,
    (frame_push16 s s.pc).mono (by simp) |>.setPC (by simp) |>.setWZ (by simp)
      |>.setCycles (by simp),
    stores_push16 (bus_wf w) rfl⟩

/-- A call that is not made latches its target all the same. -/
theorem completes_untakenCall {i : Instr} {s : State} {nn : Word} {n : Nat}
    (meaning : exec i s = .next ((s.setWZ nn).setCycles n)) :
    Completes i s [.wz, .cycles] [] fun t => t.wz = nn ∧ t.cycles = n :=
  completes_of_exec meaning rfl
    (SameExcept.self s |>.setWZ (by simp) |>.setCycles (by simp)) ⟨rfl, rfl⟩

/-- Settles O31: each form is one push of pc and a jump (`completes_call`). -/
theorem callsAndRestarts : Obligations.CallsAndRestarts := by
  refine fun s w => ⟨fun nn => ⟨rfl, completes_call w rfl⟩,
    fun cc nn => ⟨?_,
      fun h => completes_call w (exec_of_condition (exec_callCond cc nn s) h),
      fun h => completes_untakenCall (exec_of_not_condition (exec_callCond cc nn s) (by simp [h]))⟩,
    fun p => ⟨?_, (completes_call w (exec_rst p s)).imp
      fun t _ ⟨hpc, hwz, rest⟩ => ⟨hpc, hwz.trans hpc.symm, rest⟩⟩⟩
  · cases cc <;> rfl
  · cases p <;> rfl

/-! ## Returns (R430 to R433) -/

theorem completes_return {i : Instr} {s : State} {n : Nat}
    (meaning : exec i s = .next ((returnFrom s).setCycles n)) :
    Completes i s [.sp, .pc, .wz, .cycles] [] fun t =>
      t.pc = pair (s.read8 (s.sp + 1)) (s.read8 s.sp) ∧ t.wz = t.pc ∧ t.sp = s.sp + 2 ∧
        t.cycles = n :=
  completes_of_exec meaning rfl
    (((frame_returnFrom s).mono (by simp)).setCycles (by simp))
    ⟨rfl, rfl, returnFrom_sp s, rfl⟩

/-- A return that is not made counts its cycles only. -/
theorem completes_untakenReturn {i : Instr} {s : State} {n : Nat}
    (meaning : exec i s = .next (s.setCycles n)) :
    Completes i s [.sp, .pc, .wz, .cycles] [] fun t =>
      t.pc = s.pc ∧ t.wz = s.wz ∧ t.sp = s.sp ∧ t.cycles = n :=
  completes_of_exec meaning rfl ((SameExcept.self s).setCycles (by simp)) ⟨rfl, rfl, rfl, rfl⟩

/-- Settles O32: RET is `returnFrom`, and so is RET cc where the condition holds. -/
theorem returns : Obligations.Returns := by
  refine ⟨fun s => ⟨rfl, completes_return rfl⟩, fun cc s => ⟨?_, .ite
    (fun h => completes_return (exec_of_condition (exec_retCond cc s) h))
    (fun h => completes_untakenReturn (exec_of_not_condition (exec_retCond cc s) h))⟩⟩
  cases cc <;> rfl

theorem completes_retn (s : State) :
    Completes .retn s [.sp, .pc, .wz, .iff1, .cycles] [] fun t =>
      t.pc = pair (s.read8 (s.sp + 1)) (s.read8 s.sp) ∧ t.wz = t.pc ∧ t.sp = s.sp + 2 ∧
        t.iff1 = s.iff2 ∧ t.cycles = 14 :=
  completes_of_exec rfl rfl (((frame_returnFromNmi s).mono (by decide)).setCycles (by decide))
    ⟨rfl, rfl, returnFrom_sp s, rfl, rfl⟩

theorem completes_reti (s : State) :
    Completes .reti s [.sp, .pc, .wz, .iff1, .chain, .intPending, .cycles] [] fun t =>
      t.pc = pair (s.read8 (s.sp + 1)) (s.read8 s.sp) ∧ t.wz = t.pc ∧ t.sp = s.sp + 2 ∧
        t.iff1 = s.iff2 ∧ t.bus.chain = s.bus.chainReti.chain ∧
        t.bus.intPending = s.bus.chainReti.intPending ∧ t.cycles = 14 :=
  ⟨_, rfl, ⟨rfl, rfl, returnFrom_sp s, rfl, rfl, rfl, rfl⟩,
    ((frame_returnFromInterrupt s).mono (by decide)).setCycles (by decide), stores_nil rfl rfl⟩

/-- Settles O33: both are `returnFrom` with IFF2 copied, and RETI's bus is `chainReti` of the old one. -/
theorem returnFromInterrupt : Obligations.ReturnFromInterrupt :=
  ⟨rfl, rfl, completes_retn, completes_reti⟩

end Sys2Proof
end

section
/-! PROOFS. The statements of 49_io.md: IN and OUT (O34), a unit of a block input (O35) and of a block
output (O36), and the repeating forms (O37). -/

namespace Sys2Proof

open Machine Spec

/-! ## IN and OUT (R450, R451, R456, R457) -/

/-- An instruction that leaves the bus as `base`, the state after its port access, has it completes, and
stores nothing. -/
theorem completesFrom_of_exec {i : Instr} {s base t : State} {changed : List Part}
    {post : State → Prop} (meaning : exec i s = .next t) (bus : t.bus = base.bus)
    (frame : SameExcept changed base t) (after : post t) :
    CompletesFrom i s base changed [] post :=
  ⟨t, meaning, after, frame, stores_nil (by rw [bus]) (by rw [bus])⟩

theorem completesFrom_in_A_pn (n : Byte) (s : State) :
    CompletesFrom (.in_A_pn n) s (s.ioRead (pair s.a n)) [.a, .wz, .cycles] [] fun t =>
      t.a = s.ioReadValue ∧ t.wz = pair s.a n + 1 ∧ t.cycles = 11 :=
  completesFrom_of_exec rfl rfl
    (SameExcept.self _ |>.setA (by simp) |>.setWZ (by simp) |>.setCycles (by simp))
    ⟨State.a_setA _ _, rfl, rfl⟩

theorem inReg_f (r : Reg8) (s : State) :
    (inReg r s).f = Spec.szxyp s.ioReadValue ||| (s.f &&& 0x01) := by
  rw [← mask_flags_c, ← toByte_szxyp_with_c]
  exact State.f_setFlags ((s.ioRead s.bc).setReg8 r s.ioReadValue) _

theorem completesFrom_inReg (r : Reg8) (s : State) :
    CompletesFrom (Instr.inReg r) s (s.ioRead s.bc) [partOf r, .f, .wz, .cycles] [] fun t =>
      t.reg8 r = s.ioReadValue ∧ t.f = Spec.szxyp s.ioReadValue ||| (s.f &&& 0x01) ∧
        t.wz = s.bc + 1 ∧ t.cycles = 12 :=
  completesFrom_of_exec (exec_inReg r s) (by simp [inReg])
    (SameExcept.self _ |>.setReg8 (by simp) |>.setFlags (by simp) |>.setWZ (by simp)
      |>.setCycles (by simp))
    ⟨by simp [inReg], inReg_f r s, rfl, rfl⟩

/-- OUT (n),A and OUT (C),r: beside the port access, a write of WZ. -/
theorem completesFrom_out {i : Instr} {s base : State} {wz : Word} {n : Nat}
    (meaning : exec i s = .next ((base.setWZ wz).setCycles n)) :
    CompletesFrom i s base [.wz, .cycles] [] fun t => t.wz = wz ∧ t.cycles = n :=
  completesFrom_of_exec meaning rfl
    (SameExcept.self _ |>.setWZ (by simp) |>.setCycles (by simp)) ⟨rfl, rfl⟩

/-- Settles O34: each form is a port access, then writes of registers. -/
theorem portInstructions : Obligations.PortInstructions := by
  refine ⟨fun n s => ⟨rfl, completesFrom_in_A_pn n s⟩, fun r s => ⟨?_, completesFrom_inReg r s⟩,
    fun n s => ⟨rfl, completesFrom_out rfl⟩,
    fun r s => ⟨?_, completesFrom_out (exec_outReg r s)⟩⟩
  · cases r <;> rfl
  · cases r <;> rfl

/-! ## A unit of a block input (R452, R454) -/

/-- The flag record of a unit in the spec's mask form: H and C are one flag twice, under one mask. -/
theorem toByte_ioUnitFlags (v b : Byte) (k : Nat) :
    (ioUnitFlags v b k).toByte = portFlags v b k := by
  have twice (c : Bool) : mask c 0x11 = mask c 0x10 ||| mask c 0x01 := by cases c <;> rfl
  have lowBits : k &&& 7 = k % 8 := Nat.and_two_pow_sub_one_eq_mod k 3
  refine (toByte_szxy_with b _ _ _ _).trans ?_
  rw [portFlags, twice, lowBits]
  ac_rfl

theorem ioInUnit_f (down : Bool) (s : State) :
    (ioInUnit down s).f = portFlags s.ioReadValue (s.reg8 .b - 1)
      (s.ioReadValue.toNat + (stepByte down (s.reg8 .c)).toNat) := by
  rw [← toByte_ioUnitFlags]
  simp [ioInUnit, State.setReg8, State.reg8, State.f]

/-- Beside its port access a unit stores a byte and writes two pairs, F and WZ. -/
theorem frame_ioInUnit (down : Bool) (s : State) :
    SameExcept [.memory, .b, .h, .l, .f, .wz] (s.ioRead s.bc) (ioInUnit down s) :=
  SameExcept.self _
    |>.setWZ (v := stepWord down s.bc) (by decide)
    |>.write8 (a := s.hl) (v := s.ioReadValue) (by decide)
    |>.setReg8 (r := .b) (v := s.reg8 .b - 1) (by decide)
    |>.setPairSS (q := .hl) (v := stepWord down s.hl) (by decide)
    |>.setFlags (by decide)

/-- INI and IND. -/
theorem completesFrom_ioInBlock {i : Instr} {s : State} {down : Bool} (w : StateWf s = true)
    (meaning : exec i s = .next (ioInBlock down s)) :
    CompletesFrom i s (s.ioRead s.bc) [.memory, .b, .h, .l, .f, .wz, .cycles]
      [(s.hl, s.ioReadValue)] fun t =>
        t.reg8 .b = s.reg8 .b - 1 ∧ t.hl = stepWord down s.hl ∧ t.wz = stepWord down s.bc ∧
          t.f = portFlags s.ioReadValue (s.reg8 .b - 1)
            (s.ioReadValue.toNat + (stepByte down (s.reg8 .c)).toNat) ∧ t.cycles = 16 :=
  ⟨_, meaning, ⟨hi_withHi _ _, rfl, rfl, ioInUnit_f down s, rfl⟩,
    ((frame_ioInUnit down s).mono (by decide)).setCycles (by decide),
    stores_write8 (bus_wf (stateWf_ioRead w s.bc)) rfl⟩

/-- Settles O35: INI and IND are `ioInBlock` in its two directions. -/
theorem blockInput : Obligations.BlockInput :=
  ⟨rfl, rfl, fun _ w => ⟨completesFrom_ioInBlock (down := false) w rfl,
    completesFrom_ioInBlock (down := true) w rfl⟩⟩

/-! ## A unit of a block output (R458, R460) -/

/-- The port of a block output: BC with B counted down. -/
def outPort (s : State) : Word := pair (s.reg8 .b - 1) (s.reg8 .c)

theorem ioOutUnit_f (down : Bool) (s : State) :
    (ioOutUnit down s).f = portFlags (s.read8 s.hl) (s.reg8 .b - 1)
      ((s.read8 s.hl).toNat + (lo (stepWord down s.hl)).toNat) := by
  rw [← toByte_ioUnitFlags]
  simp [ioOutUnit, State.setReg8, State.reg8, State.f]

/-- Beside its port access a unit writes two pairs, F and WZ. -/
theorem frame_ioOutUnit (down : Bool) (s : State) :
    SameExcept [.b, .h, .l, .f, .wz] (s.ioWrite (outPort s) (s.read8 s.hl)) (ioOutUnit down s) :=
  SameExcept.self _
    |>.setReg8 (r := .b) (v := s.reg8 .b - 1) (by decide)
    |>.setWZ (v := stepWord down (outPort s)) (by decide)
    |>.setPairSS (q := .hl) (v := stepWord down s.hl) (by decide)
    |>.setFlags (by decide)

/-- OUTI and OUTD. -/
theorem completesFrom_ioOutBlock {i : Instr} {s : State} {down : Bool}
    (meaning : exec i s = .next (ioOutBlock down s)) :
    CompletesFrom i s (s.ioWrite (outPort s) (s.read8 s.hl)) [.b, .h, .l, .f, .wz, .cycles] []
      fun t =>
        t.reg8 .b = s.reg8 .b - 1 ∧ t.hl = stepWord down s.hl ∧ t.wz = stepWord down (outPort s) ∧
          t.f = portFlags (s.read8 s.hl) (s.reg8 .b - 1)
            ((s.read8 s.hl).toNat + (lo (stepWord down s.hl)).toNat) ∧ t.cycles = 16 :=
  completesFrom_of_exec meaning rfl
    (((frame_ioOutUnit down s).mono (by decide)).setCycles (by decide))
    ⟨hi_withHi _ _, rfl, rfl, ioOutUnit_f down s, rfl⟩

/-- Settles O36: OUTI and OUTD are `ioOutBlock` in its two directions. -/
theorem blockOutput : Obligations.BlockOutput :=
  ⟨rfl, rfl, fun _ => completesFrom_ioOutBlock (down := false) rfl,
    fun _ => completesFrom_ioOutBlock (down := true) rfl⟩

/-! ## The repeating forms (R453, R455, R459, R461) -/

/-- The end of a repeating form that leaves WZ as its unit does. -/
theorem blockRepeat_bne (b : Byte) (s : State) :
    Machine.blockRepeat (b != 0) s =
      if b ≠ 0 then { s with pc := s.pc - 2, cycles := 21 } else s.setCycles 16 := by
  simp only [Machine.blockRepeat, bne_iff_ne]
  rfl

theorem ioInBlockRepeat_eq (down : Bool) (s : State) :
    ioInBlockRepeat down s =
      if (ioInBlock down s).reg8 .b ≠ 0 then
        { ioInBlock down s with pc := s.pc - 2, cycles := 21 }
      else ioInBlock down s :=
  blockRepeat_bne _ (ioInUnit down s)

theorem ioOutBlockRepeat_eq (down : Bool) (s : State) :
    ioOutBlockRepeat down s =
      if (ioOutBlock down s).reg8 .b ≠ 0 then
        { ioOutBlock down s with pc := s.pc - 2, cycles := 21 }
      else ioOutBlock down s :=
  blockRepeat_bne _ (ioOutUnit down s)

/-- Settles O37: each repeating form is its unit with the end of R265 (`ioInBlockRepeat_eq`,
`ioOutBlockRepeat_eq`). -/
theorem blockPortRepeat : Obligations.BlockPortRepeat :=
  ⟨rfl, rfl, rfl, rfl,
    fun s => ⟨ioInBlock false s, rfl, congrArg Host.Outcome.next (ioInBlockRepeat_eq false s)⟩,
    fun s => ⟨ioInBlock true s, rfl, congrArg Host.Outcome.next (ioInBlockRepeat_eq true s)⟩,
    fun s => ⟨ioOutBlock false s, rfl, congrArg Host.Outcome.next (ioOutBlockRepeat_eq false s)⟩,
    fun s => ⟨ioOutBlock true s, rfl, congrArg Host.Outcome.next (ioOutBlockRepeat_eq true s)⟩⟩

end Sys2Proof
end

section
/-! PROOFS. The statements of 60_exceptions.md: the daisy chain (O44, O45), the instruction boundary (O46),
the invalid opcode (O47), the halted idle (O48), the PC history (O49), and which instructions complete
(O58). -/

namespace Sys2Proof

open Machine Spec

/-! ## The nodes nearer the CPU (R502) -/

theorem iei_zero (chain : List Node) : iei chain 0 := fun _ _ below => absurd below (Nat.not_lt_zero _)

theorem iei_cons_succ {n : Node} {t : List Node} {k : Nat} :
    iei (n :: t) (k + 1) ↔ n.ius = false ∧ iei t k := by
  constructor
  · intro h
    exact ⟨h 0 n (Nat.succ_pos k) rfl, fun j m below at_j => h (j + 1) m (by omega) at_j⟩
  · rintro ⟨head, tail⟩ j m below at_j
    cases j with
    | zero => cases at_j; exact head
    | succ j => exact tail j m (by omega) at_j

/-- The model's test of IEI. -/
theorem chainIei_iff (chain : List Node) (k : Nat) : chainIei chain k = true ↔ iei chain k := by
  induction chain generalizing k with
  | nil => simp [chainIei, iei]
  | cons n t ih =>
    cases k with
    | zero => exact iff_of_true rfl (iei_zero _)
    | succ k => simpa [iei_cons_succ, chainIei] using fun _ => ih k

/-! ## The acknowledge traversal (R503) -/

/-- Node k of the chain is n, and it is the first to request, with none at or above it under service. -/
def FirstRequest (chain : List Node) (k : Nat) (n : Node) : Prop :=
  chain[k]? = some n ∧ n.req = true ∧ n.ius = false ∧
    ∀ (j : Nat) (m : Node), j < k → chain[j]? = some m → m.req = false ∧ m.ius = false

theorem firstRequest_zero {m n : Node} {t : List Node} :
    FirstRequest (m :: t) 0 n ↔ m = n ∧ n.req = true ∧ n.ius = false := by
  simp [FirstRequest]

theorem firstRequest_succ {m n : Node} {t : List Node} {k : Nat} :
    FirstRequest (m :: t) (k + 1) n ↔ m.req = false ∧ m.ius = false ∧ FirstRequest t k n := by
  constructor
  · rintro ⟨at_k, req, ius, above⟩
    obtain ⟨hr, hi⟩ := above 0 m (Nat.succ_pos k) rfl
    exact ⟨hr, hi, at_k, req, ius, fun j p below at_j => above (j + 1) p (by omega) at_j⟩
  · rintro ⟨hr, hi, at_k, req, ius, above⟩
    refine ⟨at_k, req, ius, fun j p below at_j => ?_⟩
    cases j with
    | zero => cases at_j; exact ⟨hr, hi⟩
    | succ j => exact above j p (by omega) at_j

/-- A node under service ends the traversal. -/
theorem chainAck_cons_of_ius {m : Node} (t : List Node) (ius : m.ius = true) :
    chainAck (m :: t) = none := by
  rw [chainAck, if_pos ius]

/-- A node that requests answers it. -/
theorem chainAck_cons_of_req {m : Node} (t : List Node) (ius : m.ius = false) (req : m.req = true) :
    chainAck (m :: t) = some (m.vec, { m with req := false, ius := true } :: t) := by
  rw [chainAck, if_neg (Bool.eq_false_iff.mp ius), if_pos req]

/-- Any other node is passed, and stays as it is. -/
theorem chainAck_cons_of_idle {m : Node} (t : List Node) (ius : m.ius = false) (req : m.req = false) :
    chainAck (m :: t) = (chainAck t).map fun p => (p.1, m :: p.2) := by
  rw [chainAck, if_neg (Bool.eq_false_iff.mp ius), if_neg (Bool.eq_false_iff.mp req)]

theorem chainAck_cons_eq_some_iff {m : Node} {t after : List Node} {v : Byte} :
    chainAck (m :: t) = some (v, after) ↔
      (m.ius = false ∧ m.req = true ∧ v = m.vec ∧
        after = { m with req := false, ius := true } :: t) ∨
      (m.ius = false ∧ m.req = false ∧
        ∃ rest : List Node, chainAck t = some (v, rest) ∧ after = m :: rest) := by
  constructor
  · intro h
    cases ius : m.ius with
    | true => cases (chainAck_cons_of_ius t ius).symm.trans h
    | false =>
      cases req : m.req with
      | true =>
        cases (chainAck_cons_of_req t ius req).symm.trans h
        exact .inl ⟨rfl, rfl, rfl, rfl⟩
      | false =>
        rw [chainAck_cons_of_idle t ius req] at h
        obtain ⟨p, answer, values⟩ := Option.map_eq_some_iff.mp h
        cases values
        exact .inr ⟨rfl, rfl, p.2, answer, rfl⟩
  · rintro (⟨ius, req, rfl, rfl⟩ | ⟨ius, req, rest, answer, rfl⟩)
    · exact chainAck_cons_of_req t ius req
    · rw [chainAck_cons_of_idle t ius req, answer, Option.map_some]

theorem chainAck_eq_some_iff {chain after : List Node} {v : Byte} :
    chainAck chain = some (v, after) ↔
      ∃ (k : Nat) (n : Node), FirstRequest chain k n ∧ v = n.vec ∧
        after = chain.set k { n with req := false, ius := true } := by
  induction chain generalizing after with
  | nil => exact iff_of_false nofun fun ⟨_, _, ⟨inChain, _⟩, _⟩ => nomatch inChain
  | cons m t ih =>
    rw [chainAck_cons_eq_some_iff, ← Nat.or_exists_add_one]
    refine or_congr ⟨?_, ?_⟩ ⟨?_, ?_⟩
    · rintro ⟨ius, req, rfl, rfl⟩
      exact ⟨m, firstRequest_zero.mpr ⟨rfl, req, ius⟩, rfl, rfl⟩
    · rintro ⟨n, first, rfl, rfl⟩
      obtain ⟨rfl, req, ius⟩ := firstRequest_zero.mp first
      exact ⟨ius, req, rfl, rfl⟩
    · rintro ⟨ius, req, rest, answer, rfl⟩
      obtain ⟨k, n, first, rfl, rfl⟩ := ih.mp answer
      exact ⟨k, n, firstRequest_succ.mpr ⟨req, ius, first⟩, rfl, rfl⟩
    · rintro ⟨k, n, first, rfl, rfl⟩
      obtain ⟨req, ius, first⟩ := firstRequest_succ.mp first
      exact ⟨ius, req, _, ih.mpr ⟨k, n, first, rfl, rfl⟩, rfl⟩

/-- Settles O44: the traversal passes each node that neither requests nor is under service. -/
theorem chainAcknowledge : Obligations.ChainAcknowledge := by
  intro chain after v
  simp only [chainAck_eq_some_iff, FirstRequest, and_assoc]

/-! ## Request, decline and the notification of RETI (R501, R504 to R506) -/

theorem chainSetReq_of_node {chain : List Node} {k : Nat} {n : Node} (h : chain[k]? = some n) :
    chainSetReq chain k = chain.set k { n with req := true } := by
  rw [chainSetReq, h]

/-- A request of node k of a machine that is on (R501). -/
theorem chainRequest_on {s : State} {k : Nat} {n : Node} (on : s.power = .on)
    (h : s.bus.chain[k]? = some n) :
    Machine.chainRequest k s = .ok { s with bus := { s.bus with
      chain := s.bus.chain.set k { n with req := true }
      intPending := s.bus.intPending || chainIei s.bus.chain k } } := by
  have inChain : k < s.bus.chain.length := (List.getElem?_eq_some_iff.mp h).1
  simp [Machine.chainRequest, whenOn, on, Bus.chainRequest, inChain, chainSetReq_of_node h]

theorem chainRequest_noSuchNode {s : State} {k : Nat} (on : s.power = .on)
    (h : s.bus.chain[k]? = none) : Machine.chainRequest k s = .error .noSuchNode := by
  have outside : ¬k < s.bus.chain.length := by simpa using h
  simp [Machine.chainRequest, whenOn, on, Bus.chainRequest, outside]

/-- A decline clears the requests down to the first node under service, that one's too (D32). -/
theorem chainDecline_getElem? {chain : List Node} {k : Nat} {n : Node} (h : chain[k]? = some n) :
    (iei chain k → (chainDecline chain)[k]? = some { n with req := false }) ∧
      (¬iei chain k → (chainDecline chain)[k]? = some n) := by
  induction chain generalizing k with
  | nil => cases h
  | cons m t ih =>
    cases k with
    | zero =>
      cases h
      exact ⟨fun _ => rfl, fun blocked => absurd (iei_zero _) blocked⟩
    | succ k =>
      rw [iei_cons_succ]
      cases hi : m.ius with
      | true => simpa [chainDecline, hi] using h
      | false => simpa [chainDecline, hi] using ih h

/-- The test of Repropagate (R506). -/
theorem chainWaiting_iff (chain : List Node) :
    chainWaiting chain = true ↔
      ∃ (k : Nat) (n : Node), chain[k]? = some n ∧ n.req = true ∧ iei chain k := by
  induction chain with
  | nil => simp [chainWaiting]
  | cons m t ih =>
    rw [← Nat.or_exists_add_one]
    simp only [List.getElem?_cons_zero, List.getElem?_cons_succ, iei_zero, iei_cons_succ]
    cases hi : m.ius with
    | true => simp [chainWaiting, hi]
    | false => simp [chainWaiting, hi, ih]

/-- With no node under service RETI releases none. -/
theorem chainRelease_of_none {chain : List Node} (h : ∀ n ∈ chain, n.ius = false) :
    chainRelease chain = chain := by
  induction chain with
  | nil => rfl
  | cons m t ih =>
    obtain ⟨head, tail⟩ := List.forall_mem_cons.mp h
    simp [chainRelease, head, ih tail]

/-- RETI releases the first node under service. -/
theorem chainRelease_of_first {chain : List Node} {k : Nat} {n : Node} (h : chain[k]? = some n)
    (ius : n.ius = true) (first : iei chain k) :
    chainRelease chain = chain.set k { n with ius := false } := by
  induction chain generalizing k with
  | nil => cases h
  | cons m t ih =>
    cases k with
    | zero =>
      cases h
      simp [chainRelease, ius]
    | succ k =>
      obtain ⟨head, tail⟩ := iei_cons_succ.mp first
      simp [chainRelease, head, ih h tail]

/-- Settles O45: each chain operation, node by node (`chainDecline_getElem?`, `chainWaiting_iff`,
`chainRelease_of_first`). -/
theorem chainRules : Obligations.ChainRules := by
  refine ⟨fun s k on => ⟨fun n h => ⟨_, chainRequest_on on h, rfl, ?_, frame_setBus rfl rfl⟩,
      chainRequest_noSuchNode on⟩,
    fun chain k n h => chainDecline_getElem? h,
    fun b => ⟨rfl, rfl, ?_, chainRelease_of_none, fun k n => chainRelease_of_first⟩⟩
  · rw [Bool.or_eq_true, chainIei_iff]
  · rw [← chainWaiting_iff]
    exact Bool.or_eq_true_iff

/-! ## The instruction boundary (R510 to R513, R531) -/

/-- `Stores` looks at the first state's stores and page map only. -/
theorem stores_of_sameMemory {writes : List (Word × Byte)} {s base t : State}
    (hs : base.bus.stores = s.bus.stores) (hm : base.bus.map = s.bus.map)
    (h : Stores writes base t) : Stores writes s t := by
  have locate : base.bus.locate = s.bus.locate := by
    funext a
    simp only [Bus.locate, Bus.pageSource, hm]
  have leads : leadsTo base.bus = leadsTo s.bus := by
    funext a n k
    rw [leadsTo, leadsTo, locate]
  have writable : writableAt base.bus = writableAt s.bus := by
    funext a
    rw [writableAt, writableAt, locate]
  have sameBytes : sameByte base.bus = sameByte s.bus := by
    funext a x
    rw [sameByte, sameByte, locate, leads]
  have read (ws : List (Word × Byte)) (x : Word) : readAfter ws base x = readAfter ws s x := by
    induction ws with
    | nil => simp only [readAfter, State.read8, Bus.read8, locate, hs]
    | cons w ws ih => simp only [readAfter, writable, sameBytes, ih]
  obtain ⟨reads, bytes⟩ := h
  refine ⟨fun x => (reads x).trans (read writes x), fun n k untouched => ?_⟩
  rw [← hs]
  exact bytes n k (by rwa [leads])

/-- The state in which the boundary takes an interrupt: the chain as the acknowledge leaves it. -/
def acknowledged (after : List Node) (s : State) : State :=
  { s with bus := { s.bus with intPending := false, chain := after } }

theorem frame_acknowledged (after : List Node) (s : State) :
    SameExcept [.chain, .intPending] s (acknowledged after s) :=
  frame_setBus rfl rfl

section
variable {s : State}

theorem boundary_shadow (start : Word) (shadow : s.eiShadow = true) :
    boundary start s = .next { s with eiShadow := false } := by
  simp [boundary, boundaryFaults, boundaryEffect, shadow]

theorem boundary_quiet (start : Word) (shadow : s.eiShadow = false)
    (pending : s.bus.intPending = false) : boundary start s = .next s := by
  simp [boundary, boundaryFaults, boundaryEffect, shadow, pending]

variable (start : Word) (shadow : s.eiShadow = false) (pending : s.bus.intPending = true)
include shadow pending

theorem boundary_disabled (disabled : (s.iff1 && s.iff2) = false) :
    boundary start s = .next { s with bus := { s.bus with
      intPending := false, chain := chainDecline s.bus.chain } } := by
  simp only [boundary, boundaryFaults, boundaryEffect, shadow, pending, disabled]
  rfl

variable (enabled : (s.iff1 && s.iff2) = true)
include enabled

theorem boundary_unsupportedMode (mode : s.im ≠ .im2) :
    boundary start s = .fault (.unsupportedInterruptMode start) := by
  simp [boundary, boundaryFaults, shadow, pending, enabled, mode]

variable (mode : s.im = .im2)
include mode

theorem boundary_spurious (none : chainAck s.bus.chain = none) :
    boundary start s = .next { s with bus := { s.bus with intPending := false } } := by
  simp [boundary, boundaryFaults, boundaryEffect, shadow, pending, enabled, mode, none]

theorem boundary_taken {v : Byte} {after : List Node} (ack : chainAck s.bus.chain = some (v, after)) :
    boundary start s = .next (takeInterrupt v (acknowledged after s)) := by
  simp [boundary, boundaryFaults, boundaryEffect, shadow, pending, enabled, mode, ack, acknowledged]

end

theorem takeInterrupt_pc_direct (v : Byte) {s : State} (h : s.params.im2Dispatch = .direct) :
    (takeInterrupt v s).pc = pair s.i (v &&& 0xFE) := by
  rw [takeInterrupt_pc, h]

theorem takeInterrupt_pc_table (v : Byte) {s : State} (h : s.params.im2Dispatch = .table) :
    (takeInterrupt v s).pc =
      pair ((takeInterrupt v s).read8 (pair s.i (v &&& 0xFE) + 1))
        ((takeInterrupt v s).read8 (pair s.i (v &&& 0xFE))) :=
  (takeInterrupt_pc v s).trans (by simp only [h])

/-- What a taken interrupt stores is the push of pc. -/
theorem stores_takeInterrupt (v : Byte) (after : List Node) {s : State} (w : StateWf s = true) :
    Stores [(s.sp - 2, lo s.pc), (s.sp - 1, hi s.pc)] s (takeInterrupt v (acknowledged after s)) :=
  stores_of_sameMemory (base := acknowledged after s) rfl rfl
    (stores_push16 (bus_wf (stateWf_setChain w false after)) (takeInterrupt_bus v _))

theorem frame_takeInterrupt_acknowledged (v : Byte) (after : List Node) (s : State) :
    SameExcept [.memory, .iff1, .iff2, .halted, .r, .sp, .pc, .wz, .chain, .intPending, .cycles] s
      (takeInterrupt v (acknowledged after s)) :=
  ((frame_acknowledged after s).trans (frame_takeInterrupt v _)).mono (by decide)

/-- Settles O46: each case is one branch of the boundary, and the last is `takeInterrupt` after the
acknowledge. -/
theorem instructionBoundary : Obligations.InstructionBoundary := by
  refine fun start s => ⟨boundary_shadow start, boundary_quiet start,
    boundary_disabled start, fun shadow pending enabled =>
    ⟨boundary_unsupportedMode start shadow pending enabled,
      boundary_spurious start shadow pending enabled, fun v after mode ack w =>
      ⟨_, boundary_taken start shadow pending enabled mode ack, takeInterrupt_iff1 v _,
        takeInterrupt_iff2 v _, takeInterrupt_halted v _, takeInterrupt_r v _, takeInterrupt_sp v _,
        ?_, ?_, takeInterrupt_wz v _, takeInterrupt_cycles v _,
        takeInterrupt_pc_direct (s := acknowledged after s) v,
        takeInterrupt_pc_table (s := acknowledged after s) v, stores_takeInterrupt v after w,
        frame_takeInterrupt_acknowledged v after s⟩⟩⟩
  · simp [acknowledged]
  · simp [acknowledged]

/-! ## The invalid opcode (R520) and the halted idle (R540) -/

/-- Bytes that begin with no known pattern are not decoded (R132). -/
theorem decode_of_unknownPattern {o1 o2 : Byte} (h : knownPattern o1 o2 = false) (t : List Byte) :
    ∃ e : Reject, decode (o1 :: o2 :: t) = .error e := by
  cases hd : decode (o1 :: o2 :: t) with
  | error e => exact ⟨e, rfl⟩
  | ok answer =>
    have valid := (decodeExact.1 _).mp ⟨answer.1, answer.2, hd⟩
    simp [wellFormedBytes, h] at valid

theorem fetch_of_decode_error {s : State} {e : Reject} (h : decode (fetchBytes s) = .error e) :
    fetch s = .error e := by
  simp only [fetch, h]

theorem stepRunning_of_fetch_error {s : State} {e : Reject} (h : fetch (histWrite s) = .error e) :
    stepRunning s = boundary s.pc (invalidOpcode (histWrite s)) := by
  simp only [stepRunning, h]

/-- Settles O47: the fetch fails (`decode_of_unknownPattern`), and the step goes on with
`invalidOpcode`. -/
theorem invalidOpcode : Obligations.InvalidOpcode := by
  rintro s ⟨on, noFault⟩ running unknown
  obtain ⟨e, hd⟩ := decode_of_unknownPattern unknown [s.read8 (s.pc + 2), s.read8 (s.pc + 3)]
  have failed : fetch (histWrite { s with inv := false }) = .error e := fetch_of_decode_error hd
  rw [step_running on noFault running, stepRunning_of_fetch_error failed]
  rfl

/-- Settles O48: a halted step is `haltedIdle` with INV cleared, and the boundary. -/
theorem haltedIdle : Obligations.HaltedIdle := by
  rintro s ⟨on, noFault⟩ halted
  simp only [step, on, noFault, halted]
  rfl

/-! ## The PC history (R550, R551) -/

theorem frame_histWrite (s : State) : SameExcept [.hist] s (histWrite s) := by
  intro p hp
  cases p with
  | hist => exact absurd (by decide) hp
  | machine => exact ⟨rfl, rfl⟩
  | io => exact ⟨rfl, rfl, rfl⟩
  | _ => rfl

/-- Where entry i stands in a ring of depth d with write index h, the most recent first. -/
def ringIndex (d h i : Nat) : Nat := (h + d - 1 - i % d) % d

theorem pcHistory_on {s : State} (on : s.power = .on) (i : Nat) :
    pcHistory i s = .ok (s.hist.getD (ringIndex s.hist.length s.hidx i) 0x0000) := by
  simp only [pcHistory, whenOn, on, ringIndex]

theorem ringIndex_add_depth (d h i : Nat) : ringIndex d h (i + d) = ringIndex d h i := by
  rw [ringIndex, Nat.add_mod_right, ringIndex]

/-- The entry i places back, without the second modulus: below the write index, or round the ring. -/
theorem ringIndex_eq {d h i : Nat} (inRing : h < d) (entry : i < d) :
    ringIndex d h i = if i < h then h - 1 - i else h + d - 1 - i := by
  rw [ringIndex, Nat.mod_eq_of_lt entry]
  split
  · rw [show h + d - 1 - i = h - 1 - i + d by omega, Nat.add_mod_right, Nat.mod_eq_of_lt (by omega)]
  · rw [Nat.mod_eq_of_lt (by omega)]

/-- The write index goes on by one, or from the end of the ring to its start. -/
theorem add_one_mod_cases {d h : Nat} (inRing : h < d) :
    (h + 1 < d ∧ (h + 1) % d = h + 1) ∨ (h + 1 = d ∧ (h + 1) % d = 0) := by
  obtain below | atEnd : h + 1 < d ∨ h + 1 = d := by omega
  · exact .inl ⟨below, Nat.mod_eq_of_lt below⟩
  · exact .inr ⟨atEnd, by rw [atEnd, Nat.mod_self]⟩

/-- After a write the most recent entry is the one that was written. -/
theorem ringIndex_zero_add_one {d h : Nat} (inRing : h < d) :
    ringIndex d ((h + 1) % d) 0 = h := by
  rw [ringIndex_eq (Nat.mod_lt _ (by omega)) (by omega)]
  obtain ⟨-, next⟩ | ⟨atEnd, next⟩ := add_one_mod_cases inRing
  · rw [next, if_pos (by omega)]
    omega
  · rw [next, if_neg (by omega)]
    omega

/-- A write moves every other entry one place back, and overwrites none of them. -/
theorem ringIndex_succ_add_one {d h i : Nat} (inRing : h < d) (entry : i + 1 < d) :
    ringIndex d ((h + 1) % d) (i + 1) = ringIndex d h i ∧ ringIndex d h i ≠ h := by
  rw [ringIndex_eq (Nat.mod_lt _ (by omega)) entry, ringIndex_eq inRing (by omega)]
  obtain ⟨-, next⟩ | ⟨atEnd, next⟩ := add_one_mod_cases inRing
  · rw [next]
    split <;> split <;> omega
  · rw [next, if_neg (by omega)]
    split <;> omega

/-- Settles O49: the ring's index arithmetic (`ringIndex_zero_add_one`, `ringIndex_succ_add_one`,
`ringIndex_add_depth`). -/
theorem history : Obligations.History := by
  refine ⟨fun s => ⟨rfl, rfl, frame_histWrite s⟩, fun s w on => ?_⟩
  have inRing : s.hidx < s.hist.length := by
    simp only [historyWf, Bool.and_eq_true, decide_eq_true_eq] at w
    exact w.2
  have read (i : Nat) : pcHistory i (histWrite s) = .ok ((s.hist.set s.hidx s.pc).getD
      (ringIndex s.hist.length ((s.hidx + 1) % s.hist.length) i) 0x0000) := by
    rw [pcHistory_on (s := histWrite s) on]
    simp only [histWrite, List.length_set]
  refine ⟨?_, fun i entry => ?_, fun i => ?_⟩
  · rw [read, ringIndex_zero_add_one inRing]
    simp [List.getD, inRing]
  · obtain ⟨moved, kept⟩ := ringIndex_succ_add_one inRing entry
    rw [read, moved, pcHistory_on on, List.getD, List.getD, List.getElem?_set_ne kept.symm]
  · rw [pcHistory_on on, pcHistory_on on, ringIndex_add_depth]

/-! ## Every instruction but two completes (R521, R530, R560) -/

/-- Every instruction has a meaning that answers a next state, but for the two legacy modes. -/
theorem exec_next_or_legacyMode (i : Instr) (s : State) :
    (∃ t : State, exec i s = .next t) ∨ i = .im_0 ∨ i = .im_1 := by
  induction i using Instr.byForm with
  | im_0 => exact .inr (.inl rfl)
  | im_1 => exact .inr (.inr rfl)
  -- The loads, the exchanges of the stack top and the 16-bit arithmetic.
  | ldRegImm | ldRegReg | ldRegMem | ldMemReg | ldHalfImm | ldIdxImm | ldRegHalf | ldRegIdx
  | ldHalfReg | ldHalfHalf | ldIdxReg | ldPairImm | popPair | pushPair | ldMemPair | ldPairMem
  | ldIdxImm16 | ldMemIdx | ldIdxMem | popIdx | pushIdx | ldSpIdx | exSpIdx | incPair | decPair
  | addHlPair | adcHlPair | sbcHlPair | addIdxPair | incIdx16 | decIdx16 =>
    simp [exec_ldRegImm, exec_ldRegReg, exec_ldRegMem, exec_ldMemReg, exec_ldHalfImm, exec_ldIdxImm,
      exec_ldRegHalf, exec_ldRegIdx, exec_ldHalfReg, exec_ldHalfHalf, exec_ldIdxReg, exec_ldPairImm,
      exec_popPair, exec_pushPair, exec_ldMemPair, exec_ldPairMem, exec_ldIdxImm16, exec_ldMemIdx,
      exec_ldIdxMem, exec_popIdx, exec_pushIdx, exec_ldSpIdx, exec_exSpIdx, exec_incPair,
      exec_decPair, exec_addHlPair, exec_adcHlPair, exec_sbcHlPair, exec_addIdxPair, exec_incIdx16,
      exec_decIdx16]
  -- The 8-bit arithmetic, the rotates and the bit instructions.
  | incReg | decReg | aluReg | aluMem | aluImm | incHalf | decHalf | incIdx | decIdx | aluHalf
  | aluIdx | rotReg | rotMem | rotIdxCopy | rotIdx | bitReg | bitMem | bitIdx | resBitReg
  | resBitMem | resBitIdxCopy | resBitIdx | setBitReg | setBitMem | setBitIdxCopy | setBitIdx =>
    simp [exec_incReg, exec_decReg, exec_aluReg, exec_aluMem, exec_aluImm, exec_incHalf,
      exec_decHalf, exec_incIdx, exec_decIdx, exec_aluHalf, exec_aluIdx, exec_rotReg, exec_rotMem,
      exec_rotIdxCopy, exec_rotIdx, exec_bitReg, exec_bitMem, exec_bitIdx, exec_resBitReg,
      exec_resBitMem, exec_resBitIdxCopy, exec_resBitIdx, exec_setBitReg, exec_setBitMem,
      exec_setBitIdxCopy, exec_setBitIdx]
  -- The jumps, calls and returns, and the ports.
  | jrCond | retCond | jpCond | callCond | rst | jpIdx | inReg | outReg =>
    simp [exec_jrCond, exec_retCond, exec_jpCond, exec_callCond, exec_rst, exec_jpIdx, exec_inReg,
      exec_outReg]
  -- The instructions of no group.
  | _ => exact .inl ⟨_, rfl⟩

/-- Settles O58: IM 0 and IM 1 fault (`exec_legacyMode`), and every other instruction answers a next
state. -/
theorem everyInstructionCompletes : Obligations.EveryInstructionCompletes := by
  intro i s
  obtain ⟨t, meaning⟩ | legacy := exec_next_or_legacyMode i s
  · have other : ¬(i = .im_0 ∨ i = .im_1) := fun legacy => by
      rw [exec_legacyMode legacy] at meaning
      cases meaning
    simp [meaning, other]
  · simp [exec_legacyMode legacy, legacy]

end Sys2Proof
end

section
/-! PROOFS. The well-formedness of the state after reset (O57, 70_reset_and_hazards.md), and the canonical
form of a store (O42, 20_memory.md). -/

namespace Sys2Proof

open Machine

/-! ## The state after reset (R600, R601) -/

theorem historyWf_reset : historyWf State.reset = true := by decide +kernel

/-- Reset changes the chain and INT_PENDING, and neither memory nor the history. -/
theorem stateWf_resetWith (draw : ResetDraw) {s : State} (w : StateWf s = true) :
    StateWf (s.resetWith draw) = true :=
  stateWf_of w (bus_wf (stateWf_setChain w false _)) rfl rfl

/-- Settles O57: the reset state by computation, and what reset makes of another state by
`stateWf_resetWith`. -/
theorem resetWellFormed : Obligations.ResetWellFormed :=
  ⟨Bool.and_eq_true_iff.mpr ⟨State.wf_reset, historyWf_reset⟩, fun draw _ => stateWf_resetWith draw⟩

/-! ## The canonical form of a store -/

theorem cellsWf_cons_iff {bound low k : Nat} {v : Byte} {t : List Host.Cell} :
    cellsWf bound low ((k, v) :: t) = true ↔
      low ≤ k ∧ k < bound ∧ v ≠ Config.storeFill ∧ cellsWf bound (k + 1) t = true := by
  simp [cellsWf, and_assoc]

theorem cellsRead_cons_self (k : Nat) (v : Byte) (t : List Host.Cell) :
    cellsRead ((k, v) :: t) k = v := if_pos rfl

theorem cellsRead_cons_ne {k j : Nat} (v : Byte) (t : List Host.Cell) (h : j ≠ k) :
    cellsRead ((k, v) :: t) j = cellsRead t j := if_neg h.symm

/-- A list that reads as the fill everywhere has no cell. -/
theorem cells_eq_nil {bound low : Nat} {cells : List Host.Cell} (w : cellsWf bound low cells = true)
    (fill : ∀ j, cellsRead cells j = Config.storeFill) : cells = [] := by
  match cells with
  | [] => rfl
  | (k, v) :: t =>
    obtain ⟨-, -, listed, -⟩ := cellsWf_cons_iff.mp w
    exact absurd ((cellsRead_cons_self k v t).symm.trans (fill k)) listed

/-- Of two lists that read alike, neither begins above the other's first cell: there it would read as the
fill, and a listed cell does not. -/
theorem low_le_of_reads_alike {bound low low' k : Nat} {v : Byte} {t cells : List Host.Cell}
    (w : cellsWf bound low ((k, v) :: t) = true) (w' : cellsWf bound low' cells = true)
    (alike : ∀ j, cellsRead ((k, v) :: t) j = cellsRead cells j) : low' ≤ k := by
  obtain ⟨-, -, listed, -⟩ := cellsWf_cons_iff.mp w
  refine Nat.le_of_not_lt fun below => listed ?_
  rw [← cellsRead_cons_self k v t, alike, cellsRead_below w' below]

/-- A canonical list is canonical from its own first index on. -/
theorem cellsWf_from_first {bound low k : Nat} {v : Byte} {t : List Host.Cell}
    (w : cellsWf bound low ((k, v) :: t) = true) : cellsWf bound k ((k, v) :: t) = true := by
  obtain ⟨-, rest⟩ := cellsWf_cons_iff.mp w
  exact cellsWf_cons_iff.mpr ⟨Nat.le_refl k, rest⟩

theorem cells_ext {bound low : Nat} {cs ds : List Host.Cell} (wc : cellsWf bound low cs = true)
    (wd : cellsWf bound low ds = true) (alike : ∀ j, cellsRead cs j = cellsRead ds j) : cs = ds := by
  induction cs generalizing low ds with
  | nil => exact (cells_eq_nil wd fun j => (alike j).symm).symm
  | cons c t ih =>
    cases ds with
    | nil => exact cells_eq_nil wc alike
    | cons d u =>
      obtain ⟨j, v⟩ := c
      obtain ⟨k, x⟩ := d
      obtain rfl : j = k := Nat.le_antisymm
        (low_le_of_reads_alike wd (cellsWf_from_first wc) fun m => (alike m).symm)
        (low_le_of_reads_alike wc (cellsWf_from_first wd) alike)
      obtain rfl : v = x := by simpa only [cellsRead_cons_self] using alike j
      obtain ⟨-, -, -, wt⟩ := cellsWf_cons_iff.mp wc
      obtain ⟨-, -, -, wu⟩ := cellsWf_cons_iff.mp wd
      have tails (m : Nat) : cellsRead t m = cellsRead u m := by
        by_cases h : m < j + 1
        · rw [cellsRead_below wt h, cellsRead_below wu h]
        · have other : m ≠ j := by omega
          simpa only [cellsRead_cons_ne _ _ other] using alike m
      rw [ih wt wu tails]

/-- Settles O42: the first cells are at one index, with one value, and the lists after them read alike
(`cells_ext`). -/
theorem canonicalMemory : Obligations.CanonicalMemory := fun _ _ _ => cells_ext

end Sys2Proof
end
